-- ==== Sys2Proof/Word.lean ====
section
/-! DEFINITION. The word types: a byte, a 16-bit CPU address or value, a 14-bit PPU bus address
(00_scope.md R1, section 4; 20_memory.md R73). Their arithmetic is `BitVec`'s own, which wraps modulo
the width as R2 says. -/

namespace Sys2Proof

/-- An unsigned value in 0..255, bit 7 the most significant (R1). -/
abbrev Byte := BitVec 8

/-- An unsigned value in 0..65535: a CPU address, a program counter, a latch value (R1). -/
abbrev Word := BitVec 16

/-- An address on the PpuBus, 14 bits (20_memory.md R73). -/
abbrev PpuAddr := BitVec 14

end Sys2Proof
end

