-- ==== Sys2Proof/Machine/PpuTypes.lean ====
section
/-! DEFINITION. The data types of the memories and of the Ppu: what the Ppu's registers, latches, counters
and memories hold (10_state.md R31 to R42; 50_ppu.md R320 to R322). They stand in a file of their own so
that `Config.pixel` can speak of them. -/

namespace Sys2Proof.Machine

/-- A byte buffer (20_memory.md R60): the bytes that differ from what an unlisted index reads as, by rising
index. Its operations and its canonical form are in Machine/Memory.lean. -/
abbrev Memory := List Host.Cell

/-- The named byte buffers of the block (10_state.md R27 to R30, R34, R41, R42). -/
inductive Region where
  | wram | ioreg | sram | prg1 | prg2 | oam | nt | pal
  deriving DecidableEq, Repr

/-- The state of a write-twice latch's toggle: which byte the next write replaces (10_state.md R35). -/
inductive Toggle where
  | first
  | second
  deriving DecidableEq, Repr

/-- A write-twice latch (10_state.md R35, R36). -/
structure Latch where
  value  : Word
  toggle : Toggle
  deriving DecidableEq, Repr

/-- PPUCTRL, its seven fields (10_state.md R31, 50_ppu.md R320). -/
structure PpuCtrl where
  nmiEnable          : Bool
  masterSlave        : Bool
  spriteHeight       : Bool
  bgPatternTable     : Bool
  spritePatternTable : Bool
  vramIncrement      : Bool
  nametableSelect    : BitVec 2
  deriving DecidableEq, Repr

/-- PPUMASK, its six fields (10_state.md R32, 50_ppu.md R321). -/
structure PpuMask where
  emphasis             : BitVec 3
  showSprites          : Bool
  showBackground       : Bool
  spriteLeftColumn     : Bool
  backgroundLeftColumn : Bool
  greyscale            : Bool
  deriving DecidableEq, Repr

/-- PPUSTATUS, its three flags (10_state.md R33, 50_ppu.md R322). -/
structure PpuStatus where
  vblank         : Bool
  sprite0Hit     : Bool
  spriteOverflow : Bool
  deriving DecidableEq, Repr

/-- The state of the Ppu and of the memories behind its bus, less the framebuffer (10_state.md R31 to R39,
R41, R42). This is the `PpuState` that the pixel stand-in may read (50_ppu.md R327). -/
structure Ppu where
  ctrl     : PpuCtrl
  mask     : PpuMask
  status   : PpuStatus
  oamAddr  : Byte
  oam      : Memory
  scroll   : Latch
  vaddr    : Latch
  readBuf  : Byte
  oamDma   : Byte
  scanline : Nat
  cycle    : Nat
  nt       : Memory
  pal      : Memory
  deriving DecidableEq, Repr

/-- The code of a pixel's colour. The spec fixes no cell type (50_ppu.md R327): DESIGN CHOICE, a natural
number, of which nothing is assumed (notes/assumptions/8.md). -/
abbrev Colour := Nat

/-- The framebuffer (10_state.md R40): the cells written so far, by rising index. -/
abbrev Framebuffer := List (Nat × Colour)

end Sys2Proof.Machine
end

