-- ==== Sys2Proof/Config.lean ====
section
/-! DEFINITION. The implementation parameters of 00_scope.md section 4. Those with listed alternatives are the
fields of `Config`, every alternative modelled; those with one value are plain definitions; what the spec
leaves free is opaque. -/

namespace Sys2Proof

/-- `RESET_PC_POLICY` (92_eei_decisions.md D3; 70_reset_and_hazards.md R402). -/
inductive ResetPcPolicy where
  | fixed (pc : Word)
  | vector (addr : Word)
  deriving DecidableEq, Repr

/-- `PULL_B_POLICY` (D4; 40_cpu_common.md R151). -/
inductive PullBPolicy where
  | load
  | keep
  deriving DecidableEq, Repr

/-- `PRG_WRITE_POLICY` (D15; 20_memory.md R72). -/
inductive PrgWritePolicy where
  | store
  | ignore
  | fault
  deriving DecidableEq, Repr

/-- `VBLANK_POLICY` (D20; 50_ppu.md R328); `off` is the spec's `none`. -/
inductive VblankPolicy where
  | off
  | standard
  deriving DecidableEq, Repr

/-- `VRAM_INCREMENT` (D21; 50_ppu.md R318); `off` is the spec's `none`. -/
inductive VramIncrementPolicy where
  | standard
  | off
  deriving DecidableEq, Repr

/-- `REG_ACCESS_MODE` (D25; 50_ppu.md R307, R313, R315). -/
inductive RegAccessMode where
  | strict
  | permissive
  deriving DecidableEq, Repr

/-- The launch parameters with listed alternatives, fixed for a run (10_state.md R43). `State` carries them so
that every statement speaks of every setting (DESIGN CHOICE, notes/assumptions/3.md). -/
structure Config where
  resetPc          : ResetPcPolicy
  pullB            : PullBPolicy
  prgWrite         : PrgWritePolicy
  vblank           : VblankPolicy
  vramIncrement    : VramIncrementPolicy
  /-- `OAMDATA_WRITE_INCREMENT` (D24; 50_ppu.md R310). -/
  oamDataIncrement : Bool
  regAccess        : RegAccessMode
  deriving DecidableEq, Repr

/-- The defaults of 00_scope.md section 4. -/
def Config.default : Config where
  resetPc := .fixed 0xC000#16
  pullB := .load
  prgWrite := .store
  vblank := .off
  vramIncrement := .standard
  oamDataIncrement := false
  regAccess := .strict

/-- `NT_SIZE` (D18; 10_state.md R41). -/
def Config.ntSize : Nat := 0x1000

/-- `BRANCH_TAKEN_EXTRA` (D7; 40_cpu_common.md R153). -/
def Config.branchTakenExtra : Nat := 1

/-- PPU steps for one Cpu cycle (00_scope.md section 4; 55_console.md R352). -/
def Config.ppuStepsPerCycle : Nat := 3

/-- `PIXEL(scanline, cycle, PpuState)`: a free value, any colour for any arguments (50_ppu.md R327;
notes/assumptions/8.md). -/
opaque Config.pixel : Nat → Nat → Machine.Ppu → Machine.Colour

/-- `INIT_FB`: what a framebuffer cell holds before it is first written, a free value (10_state.md R40;
92_eei_decisions.md D26; notes/assumptions/8.md). -/
opaque Config.initFb : Nat → Machine.Colour

/-- The byte that the n-th permissive read of a write-only register returns, a free value (50_ppu.md R313;
notes/assumptions/9.md). -/
opaque Config.freeByte : Nat → Byte

end Sys2Proof
end

