-- ==== Sys2Proof/Machine/State.lean ====
section
/-! DEFINITION. The machine's state, its reset value, and the outcomes of an access and of a step
(10_state.md; 60_exceptions.md R370; 70_reset_and_hazards.md R400 to R405). -/

namespace Sys2Proof.Machine

/-- What stops the machine. The first eight are the spec's taxonomy (60_exceptions.md R370), the last two the
model's own. Each ends the run (R382). -/
inductive Fault where
  /-- Raised by the Cpu step on an unmapped opcode byte, with the address it was fetched from (R371). Safe: the
  spec itself stops there. -/
  | unknownOpcode (byte : Byte) (pc : Word)
  /-- Raised by the Ppu's register interface on an address outside the nine (R372). Safe: the spec stops there. -/
  | invalidPpuRegister (addr : Word)
  /-- Raised by a write that decodes to 0x2002 in strict mode (R373). Safe: the spec stops there. -/
  | readOnlyRegisterWrite (addr : Word)
  /-- Raised by a read that decodes to 0x2005 or 0x2006 in strict mode (R374). Safe: the spec stops there. -/
  | writeOnlyRegisterRead (addr : Word)
  /-- Raised by a Memory access outside its buffer (R375, 20_memory.md R62). Safe: the spec stops there. -/
  | memoryOutOfRange (region : Region) (index : Nat)
  /-- Raised by a PpuBus access at 0x0000..0x1FFF (R376). Safe: the spec stops there. -/
  | ppuBusUnmapped (addr : PpuAddr)
  /-- Raised by program load with an image that is not 16 KB or 32 KB (R377). Safe: the spec stops there. -/
  | imageSizeRefused (length : Nat)
  /-- Raised by a write at 0x8000..0xFFFF under `PRG_WRITE_POLICY = fault` (20_memory.md R72). Safe: the spec
  stops there. -/
  | romWrite (addr : Word)
  /-- Raised by an access to a program bank before any image is loaded, which is outside the spec
  (70_reset_and_hazards.md R407). Safe: the model stops (notes/assumptions/1.md). -/
  | noProgramLoaded (region : Region) (index : Nat)
  /-- Raised by a step after the run has ended in halt, to which the spec gives no meaning (55_console.md R357).
  Safe: the model stops (notes/assumptions/4.md). -/
  | runEnded
  deriving DecidableEq, Repr

/-- What the model gives no meaning. -/
inductive Refusal where
  /-- Raised by an arm of exec whose instruction has no meaning yet; no arm does. Safe: the model stops. -/
  | notModelled (mnemonic : String)
  deriving DecidableEq, Repr

/-- The seven status flags (10_state.md R23). -/
structure Flags where
  n : Bool
  v : Bool
  b : Bool
  d : Bool
  i : Bool
  z : Bool
  c : Bool
  deriving DecidableEq, Repr

/-- The two program bank slots (10_state.md R30, 20_memory.md R71). -/
inductive Prg where
  /-- Before any image is loaded: no contents. -/
  | unloaded
  /-- A 16 KB image: one buffer seen in both slots. -/
  | shared (buffer : Memory)
  /-- A 32 KB image: two independent buffers. -/
  | split (bank1 bank2 : Memory)
  deriving DecidableEq, Repr

/-- Whether the run goes on or has ended in halt: the model's record of `Cpu.step()`'s outcome `halt`
(45_control.md R264, 55_console.md R357; notes/assumptions/4.md). -/
inductive RunStatus where
  | running
  | halted
  deriving DecidableEq, Repr

/-- The state of the block: 10_state.md R20 to R42, and three fields of the model's own, last. -/
structure State where
  a     : Byte
  x     : Byte
  y     : Byte
  pc    : Word
  sp    : Byte
  p     : Flags
  wram  : Memory
  ioreg : Memory
  sram  : Memory
  prg   : Prg
  ppu   : Ppu
  fb    : Framebuffer
  /-- The launch parameters, fixed for a run (R43; notes/assumptions/3.md). -/
  cfg   : Config
  /-- Whether the run has ended in halt (notes/assumptions/4.md). -/
  run   : RunStatus
  /-- How many free bytes have been taken (notes/assumptions/9.md). -/
  freeCount : Nat
  deriving DecidableEq, Repr

/-- The flags after Cpu reset: cleared except `I` (70_reset_and_hazards.md R401). -/
def Flags.reset : Flags where
  n := false
  v := false
  b := false
  d := false
  i := true
  z := false
  c := false

/-- The Ppu as constructed (R405), its memories as `INIT_OAM`, `INIT_NT`, `INIT_PAL` default (R404). -/
def Ppu.reset : Ppu where
  ctrl := ⟨false, false, false, false, false, false, 0#2⟩
  mask := ⟨0#3, false, false, false, false, false⟩
  status := ⟨false, false, false⟩
  oamAddr := 0x00#8
  oam := []
  scroll := ⟨0x0000#16, .first⟩
  vaddr := ⟨0x0000#16, .first⟩
  readBuf := 0x00#8
  oamDma := 0x00#8
  scanline := 0
  cycle := 0
  nt := []
  pal := []

/-- The machine right after reset, under the default parameters, before a program is loaded (R400 to R405;
notes/assumptions/1.md, 2.md, 10.md). -/
def State.reset : State where
  a := 0x00#8
  x := 0x00#8
  y := 0x00#8
  pc := 0xC000#16
  sp := 0xFD#8
  p := Flags.reset
  wram := []
  ioreg := []
  sram := []
  prg := .unloaded
  ppu := Ppu.reset
  fb := []
  cfg := Config.default
  run := .running
  freeCount := 0

def State.setA (v : Byte) (s : State) : State := { s with a := v }
def State.setX (v : Byte) (s : State) : State := { s with x := v }
def State.setY (v : Byte) (s : State) : State := { s with y := v }
def State.setPc (v : Word) (s : State) : State := { s with pc := v }
def State.setSp (v : Byte) (s : State) : State := { s with sp := v }
def State.setP (v : Flags) (s : State) : State := { s with p := v }
def State.setPpu (v : Ppu) (s : State) : State := { s with ppu := v }

/-- The result of an instruction or of a step. -/
abbrev Result := Host.Outcome State Fault Refusal

/-- The result of an access, which may change the state (a read of 0x2002 or 0x2007 does) or fault. -/
inductive Access (α : Type) where
  | ok (value : α) (s : State)
  | fault (f : Fault)

/-- What a CPU address decodes to (20_memory.md R63): a cell of a region, or a register of the Ppu. -/
inductive CpuTarget where
  | cell (region : Region) (index : Nat)
  | ppuRegister (addr : Word)
  deriving DecidableEq, Repr

/-- The nine registers of the Ppu (50_ppu.md R300). -/
inductive PpuReg where
  | ctrl | mask | status | oamAddr | oamData | scroll | addr | data | oamDma
  deriving DecidableEq, Repr

/-- The outcome of `Cpu.step()` (40_cpu_common.md R130): `cycles`, `halt`, or a fault. `refused` carries an
unmodelled instruction through; no arm of exec refuses. -/
inductive CpuResult where
  | cycles (n : Nat) (s : State)
  | halt (s : State)
  | fault (f : Fault)
  | refused (r : Refusal)

/-- One line of the conformance trace (55_console.md R355), captured before the instruction executes. -/
structure TraceLine where
  pc    : Word
  bytes : List Byte
  a     : Byte
  x     : Byte
  y     : Byte
  p     : Byte
  sp    : Byte
  deriving DecidableEq, Repr

/-- The register state that the observer sees (55_console.md R356): the six registers of the Cpu (10_state.md section
1). That it is these and no register of the Ppu is a DESIGN CHOICE (notes/assumptions/14.md). -/
structure Registers where
  pc : Word
  a  : Byte
  x  : Byte
  y  : Byte
  sp : Byte
  p  : Flags
  deriving DecidableEq, Repr

/-- One invocation of the observer (55_console.md R356), with the register state at that point. -/
inductive ObserverEvent where
  /-- After a fetched byte. -/
  | fetched (b : Byte) (r : Registers)
  /-- After a completed instruction. -/
  | completed (r : Registers)
  deriving DecidableEq, Repr

end Sys2Proof.Machine
end

