-- ==== Sys2Proof/Machine/Memory.lean ====
section
/-! DEFINITION. The Memory primitive (20_memory.md R60 to R62), its canonical form, the regions of the state and
the framebuffer's cells. -/

namespace Sys2Proof.Machine

/-- What an index that a Memory does not list reads as: the default of every `INIT_*` parameter
(92_eei_decisions.md D17; notes/assumptions/2.md). -/
def Memory.unlisted : Byte := 0x00#8

/-- The byte at index `i` (R60). -/
def Memory.read : Memory → Nat → Byte
  | [], _ => Memory.unlisted
  | (k, w) :: rest, i =>
    if i < k then Memory.unlisted else if i = k then w else Memory.read rest i

/-- The cell to list for byte `v` at index `i`: none if `i` need not be listed. -/
def Memory.entry (i : Nat) (v : Byte) : Memory := if v = Memory.unlisted then [] else [(i, v)]

/-- `m` with the byte at index `i` replaced by `v` (R60), kept in canonical form. -/
def Memory.write : Memory → Nat → Byte → Memory
  | [], i, v => Memory.entry i v
  | (k, w) :: rest, i, v =>
    if i < k then Memory.entry i v ++ (k, w) :: rest
    else if i = k then Memory.entry i v ++ rest
    else (k, w) :: Memory.write rest i v

/-- Bulk write: byte `i + k` becomes the k-th byte of the slice (R61). -/
def Memory.writeSlice (m : Memory) (i : Nat) : List Byte → Memory
  | [] => m
  | b :: rest => (Memory.writeSlice m (i + 1) rest).write i b

/-- The indices rise strictly from `low` on and no entry equals what an unlisted index reads as. -/
def Memory.risesFrom (low : Nat) : Memory → Bool
  | [] => true
  | (k, w) :: rest => decide (low ≤ k) && decide (w ≠ Memory.unlisted) && Memory.risesFrom (k + 1) rest

/-- The canonical form of a Memory of `size` bytes: rising indices below `size`, no default entry. -/
def Memory.wf (size : Nat) (m : Memory) : Bool :=
  Memory.risesFrom 0 m && m.all fun cell => decide (cell.1 < size)

/-- The declared size of each region (10_state.md R27 to R30, R34, R41, R42). -/
def Region.size : Region → Nat
  | .wram => 0x800
  | .ioreg => 0x20
  | .sram => 0x3FE0
  | .prg1 => 0x4000
  | .prg2 => 0x4000
  | .oam => 0x100
  | .nt => Config.ntSize
  | .pal => 0x20

/-- The buffer in slot 1, if an image is loaded (20_memory.md R71). -/
def Prg.bank1 : Prg → Option Memory
  | .unloaded => none
  | .shared m => some m
  | .split m _ => some m

/-- The buffer in slot 2, if an image is loaded (R71). -/
def Prg.bank2 : Prg → Option Memory
  | .unloaded => none
  | .shared m => some m
  | .split _ m => some m

/-- Replace the buffer in slot 1: for a 16 KB image it is the one buffer of both slots (R72). -/
def Prg.setBank1 (m : Memory) : Prg → Prg
  | .split _ m2 => .split m m2
  | _ => .shared m

/-- Replace the buffer in slot 2 (R72). -/
def Prg.setBank2 (m : Memory) : Prg → Prg
  | .split m1 _ => .split m1 m
  | _ => .shared m

/-- The Memory of a region; a bank has none before an image is loaded. -/
def State.memOf (s : State) : Region → Option Memory
  | .wram => some s.wram
  | .ioreg => some s.ioreg
  | .sram => some s.sram
  | .prg1 => s.prg.bank1
  | .prg2 => s.prg.bank2
  | .oam => some s.ppu.oam
  | .nt => some s.ppu.nt
  | .pal => some s.ppu.pal

/-- `s` with the Memory of a region replaced. -/
def State.setMem (r : Region) (m : Memory) (s : State) : State :=
  match r with
  | .wram => { s with wram := m }
  | .ioreg => { s with ioreg := m }
  | .sram => { s with sram := m }
  | .prg1 => { s with prg := s.prg.setBank1 m }
  | .prg2 => { s with prg := s.prg.setBank2 m }
  | .oam => { s with ppu := { s.ppu with oam := m } }
  | .nt => { s with ppu := { s.ppu with nt := m } }
  | .pal => { s with ppu := { s.ppu with pal := m } }

/-- A bounds-checked read of a region: it changes nothing (R60, R62). -/
def readCell (r : Region) (i : Nat) (s : State) : Access Byte :=
  if i < r.size then
    match s.memOf r with
    | some m => .ok (m.read i) s
    | none => .fault (.noProgramLoaded r i)
  else .fault (.memoryOutOfRange r i)

/-- A bounds-checked write of a region: it changes one byte (R60, R62). -/
def writeCell (r : Region) (i : Nat) (v : Byte) (s : State) : Access Unit :=
  if i < r.size then
    match s.memOf r with
    | some m => .ok () (s.setMem r (m.write i v))
    | none => .fault (.noProgramLoaded r i)
  else .fault (.memoryOutOfRange r i)

/-- A bounds-checked bulk write of a region (R61, R62); only program load uses it, with lengths that fit. R62 names an
index only for a one-byte access; that a bulk write past the end reports `i + bytes.length`, and does so before any byte
is written, is a DESIGN CHOICE (notes/assumptions/16.md). -/
def bulkWrite (r : Region) (i : Nat) (bytes : List Byte) (s : State) : Access Unit :=
  if i + bytes.length ≤ r.size then
    match s.memOf r with
    | some m => .ok () (s.setMem r (m.writeSlice i bytes))
    | none => .fault (.noProgramLoaded r i)
  else .fault (.memoryOutOfRange r (i + bytes.length))

/-- The number of framebuffer cells, 256 x 240 (50_ppu.md R326). -/
def Framebuffer.size : Nat := 61440

/-- The colour in cell `i`: the one last written, or `INIT_FB` (10_state.md R40). -/
def Framebuffer.read : Framebuffer → Nat → Colour
  | [], i => Config.initFb i
  | (k, colour) :: rest, i => if i = k then colour else Framebuffer.read rest i

/-- `f` with cell `i` replaced. -/
def Framebuffer.write : Framebuffer → Nat → Colour → Framebuffer
  | [], i, colour => [(i, colour)]
  | (k, old) :: rest, i, colour =>
    if i < k then (i, colour) :: (k, old) :: rest
    else if i = k then (i, colour) :: rest
    else (k, old) :: Framebuffer.write rest i colour

/-- The indices of the written cells rise strictly from `low` on and lie in the framebuffer. -/
def Framebuffer.risesFrom (low : Nat) : Framebuffer → Bool
  | [] => true
  | (k, _) :: rest =>
    decide (low ≤ k) && decide (k < Framebuffer.size) && Framebuffer.risesFrom (k + 1) rest

/-- The canonical form of a framebuffer. -/
def Framebuffer.wf (f : Framebuffer) : Bool := Framebuffer.risesFrom 0 f

end Sys2Proof.Machine
end

