-- ==== Sys2Proof/Syntax.lean ====
section
/-! DEFINITION. The syntax of instructions: operations, formats, operands, and `Instr`, one constructor for each
row of opcode_table.json (30_encoding.md R101, R104 to R106, R108). A comment gives a row's opcode byte, the rule
of its operation and the rule of its format. -/

namespace Sys2Proof

/-- The eight formats whose operand is a memory address (R101): `zp zpx zpy` and `izx izy` hold the operand byte,
`abs abx aby` the operand word. -/
inductive MemMode where
  | zp (z : Byte)
  | zpx (z : Byte)
  | zpy (z : Byte)
  | abs (addr : Word)
  | abx (addr : Word)
  | aby (addr : Word)
  | izx (z : Byte)
  | izy (z : Byte)
  deriving DecidableEq, Repr

/-- An instruction's operand, one of the thirteen formats of R101. -/
inductive Operand where
  | imp
  | acc
  | imm (v : Byte)
  | mem (m : MemMode)
  | ind (ptr : Word)
  | rel (d : Int)
  deriving DecidableEq, Repr

/-- What a loading operation reads: `Load(imm(v))` or `Load(addr(a))` (40_cpu_common.md R145). -/
inductive Src where
  | imm (v : Byte)
  | mem (m : MemMode)
  deriving DecidableEq, Repr

/-- What a modifying operation reads and writes: `acc` or a memory operand (40_cpu_common.md R133, R154). -/
inductive Dst where
  | acc
  | mem (m : MemMode)
  deriving DecidableEq, Repr

def Src.operand : Src → Operand
  | .imm v => .imm v
  | .mem m => .mem m

def Dst.operand : Dst → Operand
  | .acc => .acc
  | .mem m => .mem m

/-- The names of the thirteen formats (R101). -/
inductive Format where
  | imp | acc | imm | zp | zpx | zpy | abs | abx | aby | ind | izx | izy | rel
  deriving DecidableEq, Repr

def MemMode.format : MemMode → Format
  | .zp _ => .zp
  | .zpx _ => .zpx
  | .zpy _ => .zpy
  | .abs _ => .abs
  | .abx _ => .abx
  | .aby _ => .aby
  | .izx _ => .izx
  | .izy _ => .izy

def Operand.format : Operand → Format
  | .imp => .imp
  | .acc => .acc
  | .imm _ => .imm
  | .mem m => m.format
  | .ind _ => .ind
  | .rel _ => .rel

/-- The operations, one for each mnemonic of the opcode table. -/
inductive Operation where
  | hlt | ora | slo | skb | asl | php | skw | bpl | clc | nop | jsr
  | and | rla | bit | rol | plp | bmi | sec | rti | eor | sre | lsr
  | pha | jmp | bvc | cli | rts | adc | rra | ror | pla | bvs | sei
  | sta | aax | sty | stx | dey | txa | bcc | tya | txs | ldy | lda
  | ldx | lax | tay | tax | bcs | clv | tsx | cpy | cmp | dcp | dec
  | iny | dex | bne | cld | cpx | sbc | isc | inc | inx | beq | sed
  deriving DecidableEq, Repr

/-- One constructor for each of the 227 mapped opcode bytes. -/
inductive Instr where
  | hlt  -- 00: R264, R132
  | oraIzx (zp : Byte)  -- 01: R193, R142
  | sloIzx (zp : Byte)  -- 03: R282, R142
  | skbZp04 (zp : Byte)  -- 04: R288, R135
  | oraZp (zp : Byte)  -- 05: R193, R135
  | aslZp (zp : Byte)  -- 06: R220, R135
  | sloZp (zp : Byte)  -- 07: R282, R135
  | php  -- 08: R239, R132
  | oraImm (v : Byte)  -- 09: R193, R134
  | aslAcc  -- 0A: R220, R133
  | skwAbs (addr : Word)  -- 0C: R289, R138
  | oraAbs (addr : Word)  -- 0D: R193, R138
  | aslAbs (addr : Word)  -- 0E: R220, R138
  | sloAbs (addr : Word)  -- 0F: R282, R138
  | bpl (d : Int)  -- 10: R250, R144
  | oraIzy (zp : Byte)  -- 11: R193, R143
  | sloIzy (zp : Byte)  -- 13: R282, R143
  | skbZpx14 (zp : Byte)  -- 14: R288, R136
  | oraZpx (zp : Byte)  -- 15: R193, R136
  | aslZpx (zp : Byte)  -- 16: R220, R136
  | sloZpx (zp : Byte)  -- 17: R282, R136
  | clc  -- 18: R230, R132
  | oraAby (addr : Word)  -- 19: R193, R140
  | nop1A  -- 1A: R290, R132
  | sloAby (addr : Word)  -- 1B: R282, R140
  | skwAbx1C (addr : Word)  -- 1C: R289, R139
  | oraAbx (addr : Word)  -- 1D: R193, R139
  | aslAbx (addr : Word)  -- 1E: R220, R139
  | sloAbx (addr : Word)  -- 1F: R282, R139
  | jsr (addr : Word)  -- 20: R261, R138
  | andIzx (zp : Byte)  -- 21: R192, R142
  | rlaIzx (zp : Byte)  -- 23: R283, R142
  | bitZp (zp : Byte)  -- 24: R195, R135
  | andZp (zp : Byte)  -- 25: R192, R135
  | rolZp (zp : Byte)  -- 26: R222, R135
  | rlaZp (zp : Byte)  -- 27: R283, R135
  | plp  -- 28: R240, R132
  | andImm (v : Byte)  -- 29: R192, R134
  | rolAcc  -- 2A: R222, R133
  | bitAbs (addr : Word)  -- 2C: R195, R138
  | andAbs (addr : Word)  -- 2D: R192, R138
  | rolAbs (addr : Word)  -- 2E: R222, R138
  | rlaAbs (addr : Word)  -- 2F: R283, R138
  | bmi (d : Int)  -- 30: R251, R144
  | andIzy (zp : Byte)  -- 31: R192, R143
  | rlaIzy (zp : Byte)  -- 33: R283, R143
  | skbZpx34 (zp : Byte)  -- 34: R288, R136
  | andZpx (zp : Byte)  -- 35: R192, R136
  | rolZpx (zp : Byte)  -- 36: R222, R136
  | rlaZpx (zp : Byte)  -- 37: R283, R136
  | sec  -- 38: R231, R132
  | andAby (addr : Word)  -- 39: R192, R140
  | nop3A  -- 3A: R290, R132
  | rlaAby (addr : Word)  -- 3B: R283, R140
  | skwAbx3C (addr : Word)  -- 3C: R289, R139
  | andAbx (addr : Word)  -- 3D: R192, R139
  | rolAbx (addr : Word)  -- 3E: R222, R139
  | rlaAbx (addr : Word)  -- 3F: R283, R139
  | rti  -- 40: R263, R132
  | eorIzx (zp : Byte)  -- 41: R194, R142
  | sreIzx (zp : Byte)  -- 43: R284, R142
  | skbZp44 (zp : Byte)  -- 44: R288, R135
  | eorZp (zp : Byte)  -- 45: R194, R135
  | lsrZp (zp : Byte)  -- 46: R221, R135
  | sreZp (zp : Byte)  -- 47: R284, R135
  | pha  -- 48: R237, R132
  | eorImm (v : Byte)  -- 49: R194, R134
  | lsrAcc  -- 4A: R221, R133
  | jmpAbs (addr : Word)  -- 4C: R259, R138
  | eorAbs (addr : Word)  -- 4D: R194, R138
  | lsrAbs (addr : Word)  -- 4E: R221, R138
  | sreAbs (addr : Word)  -- 4F: R284, R138
  | bvc (d : Int)  -- 50: R252, R144
  | eorIzy (zp : Byte)  -- 51: R194, R143
  | sreIzy (zp : Byte)  -- 53: R284, R143
  | skbZpx54 (zp : Byte)  -- 54: R288, R136
  | eorZpx (zp : Byte)  -- 55: R194, R136
  | lsrZpx (zp : Byte)  -- 56: R221, R136
  | sreZpx (zp : Byte)  -- 57: R284, R136
  | cli  -- 58: R232, R132
  | eorAby (addr : Word)  -- 59: R194, R140
  | nop5A  -- 5A: R290, R132
  | sreAby (addr : Word)  -- 5B: R284, R140
  | skwAbx5C (addr : Word)  -- 5C: R289, R139
  | eorAbx (addr : Word)  -- 5D: R194, R139
  | lsrAbx (addr : Word)  -- 5E: R221, R139
  | sreAbx (addr : Word)  -- 5F: R284, R139
  | rts  -- 60: R262, R132
  | adcIzx (zp : Byte)  -- 61: R190, R142
  | rraIzx (zp : Byte)  -- 63: R285, R142
  | skbZp64 (zp : Byte)  -- 64: R288, R135
  | adcZp (zp : Byte)  -- 65: R190, R135
  | rorZp (zp : Byte)  -- 66: R223, R135
  | rraZp (zp : Byte)  -- 67: R285, R135
  | pla  -- 68: R238, R132
  | adcImm (v : Byte)  -- 69: R190, R134
  | rorAcc  -- 6A: R223, R133
  | jmpInd (ptr : Word)  -- 6C: R260, R141
  | adcAbs (addr : Word)  -- 6D: R190, R138
  | rorAbs (addr : Word)  -- 6E: R223, R138
  | rraAbs (addr : Word)  -- 6F: R285, R138
  | bvs (d : Int)  -- 70: R253, R144
  | adcIzy (zp : Byte)  -- 71: R190, R143
  | rraIzy (zp : Byte)  -- 73: R285, R143
  | skbZpx74 (zp : Byte)  -- 74: R288, R136
  | adcZpx (zp : Byte)  -- 75: R190, R136
  | rorZpx (zp : Byte)  -- 76: R223, R136
  | rraZpx (zp : Byte)  -- 77: R285, R136
  | sei  -- 78: R233, R132
  | adcAby (addr : Word)  -- 79: R190, R140
  | nop7A  -- 7A: R290, R132
  | rraAby (addr : Word)  -- 7B: R285, R140
  | skwAbx7C (addr : Word)  -- 7C: R289, R139
  | adcAbx (addr : Word)  -- 7D: R190, R139
  | rorAbx (addr : Word)  -- 7E: R223, R139
  | rraAbx (addr : Word)  -- 7F: R285, R139
  | skbImm (v : Byte)  -- 80: R288, R134
  | staIzx (zp : Byte)  -- 81: R173, R142
  | aaxIzx (zp : Byte)  -- 83: R281, R142
  | styZp (zp : Byte)  -- 84: R175, R135
  | staZp (zp : Byte)  -- 85: R173, R135
  | stxZp (zp : Byte)  -- 86: R174, R135
  | aaxZp (zp : Byte)  -- 87: R281, R135
  | dey  -- 88: R204, R132
  | txa  -- 8A: R177, R132
  | styAbs (addr : Word)  -- 8C: R175, R138
  | staAbs (addr : Word)  -- 8D: R173, R138
  | stxAbs (addr : Word)  -- 8E: R174, R138
  | aaxAbs (addr : Word)  -- 8F: R281, R138
  | bcc (d : Int)  -- 90: R254, R144
  | staIzy (zp : Byte)  -- 91: R173, R143
  | styZpx (zp : Byte)  -- 94: R175, R136
  | staZpx (zp : Byte)  -- 95: R173, R136
  | stxZpy (zp : Byte)  -- 96: R174, R137
  | aaxZpy (zp : Byte)  -- 97: R281, R137
  | tya  -- 98: R179, R132
  | staAby (addr : Word)  -- 99: R173, R140
  | txs  -- 9A: R181, R132
  | staAbx (addr : Word)  -- 9D: R173, R139
  | ldyImm (v : Byte)  -- A0: R172, R134
  | ldaIzx (zp : Byte)  -- A1: R170, R142
  | ldxImm (v : Byte)  -- A2: R171, R134
  | laxIzx (zp : Byte)  -- A3: R280, R142
  | ldyZp (zp : Byte)  -- A4: R172, R135
  | ldaZp (zp : Byte)  -- A5: R170, R135
  | ldxZp (zp : Byte)  -- A6: R171, R135
  | laxZp (zp : Byte)  -- A7: R280, R135
  | tay  -- A8: R178, R132
  | ldaImm (v : Byte)  -- A9: R170, R134
  | tax  -- AA: R176, R132
  | ldyAbs (addr : Word)  -- AC: R172, R138
  | ldaAbs (addr : Word)  -- AD: R170, R138
  | ldxAbs (addr : Word)  -- AE: R171, R138
  | laxAbs (addr : Word)  -- AF: R280, R138
  | bcs (d : Int)  -- B0: R255, R144
  | ldaIzy (zp : Byte)  -- B1: R170, R143
  | laxIzy (zp : Byte)  -- B3: R280, R143
  | ldyZpx (zp : Byte)  -- B4: R172, R136
  | ldaZpx (zp : Byte)  -- B5: R170, R136
  | ldxZpy (zp : Byte)  -- B6: R171, R137
  | laxZpy (zp : Byte)  -- B7: R280, R137
  | clv  -- B8: R234, R132
  | ldaAby (addr : Word)  -- B9: R170, R140
  | tsx  -- BA: R180, R132
  | ldyAbx (addr : Word)  -- BC: R172, R139
  | ldaAbx (addr : Word)  -- BD: R170, R139
  | ldxAby (addr : Word)  -- BE: R171, R140
  | laxAby (addr : Word)  -- BF: R280, R140
  | cpyImm (v : Byte)  -- C0: R198, R134
  | cmpIzx (zp : Byte)  -- C1: R196, R142
  | dcpIzx (zp : Byte)  -- C3: R286, R142
  | cpyZp (zp : Byte)  -- C4: R198, R135
  | cmpZp (zp : Byte)  -- C5: R196, R135
  | decZp (zp : Byte)  -- C6: R200, R135
  | dcpZp (zp : Byte)  -- C7: R286, R135
  | iny  -- C8: R202, R132
  | cmpImm (v : Byte)  -- C9: R196, R134
  | dex  -- CA: R203, R132
  | cpyAbs (addr : Word)  -- CC: R198, R138
  | cmpAbs (addr : Word)  -- CD: R196, R138
  | decAbs (addr : Word)  -- CE: R200, R138
  | dcpAbs (addr : Word)  -- CF: R286, R138
  | bne (d : Int)  -- D0: R256, R144
  | cmpIzy (zp : Byte)  -- D1: R196, R143
  | dcpIzy (zp : Byte)  -- D3: R286, R143
  | skbZpxD4 (zp : Byte)  -- D4: R288, R136
  | cmpZpx (zp : Byte)  -- D5: R196, R136
  | decZpx (zp : Byte)  -- D6: R200, R136
  | dcpZpx (zp : Byte)  -- D7: R286, R136
  | cld  -- D8: R235, R132
  | cmpAby (addr : Word)  -- D9: R196, R140
  | nopDA  -- DA: R290, R132
  | dcpAby (addr : Word)  -- DB: R286, R140
  | skwAbxDC (addr : Word)  -- DC: R289, R139
  | cmpAbx (addr : Word)  -- DD: R196, R139
  | decAbx (addr : Word)  -- DE: R200, R139
  | dcpAbx (addr : Word)  -- DF: R286, R139
  | cpxImm (v : Byte)  -- E0: R197, R134
  | sbcIzx (zp : Byte)  -- E1: R191, R142
  | iscIzx (zp : Byte)  -- E3: R287, R142
  | cpxZp (zp : Byte)  -- E4: R197, R135
  | sbcZp (zp : Byte)  -- E5: R191, R135
  | incZp (zp : Byte)  -- E6: R199, R135
  | iscZp (zp : Byte)  -- E7: R287, R135
  | inx  -- E8: R201, R132
  | sbcImm (v : Byte)  -- E9: R191, R134
  | nop  -- EA: R241, R132
  | sbcImmEB (v : Byte)  -- EB: R291, R134
  | cpxAbs (addr : Word)  -- EC: R197, R138
  | sbcAbs (addr : Word)  -- ED: R191, R138
  | incAbs (addr : Word)  -- EE: R199, R138
  | iscAbs (addr : Word)  -- EF: R287, R138
  | beq (d : Int)  -- F0: R257, R144
  | sbcIzy (zp : Byte)  -- F1: R191, R143
  | iscIzy (zp : Byte)  -- F3: R287, R143
  | skbZpxF4 (zp : Byte)  -- F4: R288, R136
  | sbcZpx (zp : Byte)  -- F5: R191, R136
  | incZpx (zp : Byte)  -- F6: R199, R136
  | iscZpx (zp : Byte)  -- F7: R287, R136
  | sed  -- F8: R236, R132
  | sbcAby (addr : Word)  -- F9: R191, R140
  | nopFA  -- FA: R290, R132
  | iscAby (addr : Word)  -- FB: R287, R140
  | skwAbxFC (addr : Word)  -- FC: R289, R139
  | sbcAbx (addr : Word)  -- FD: R191, R139
  | incAbx (addr : Word)  -- FE: R199, R139
  | iscAbx (addr : Word)  -- FF: R287, R139
  deriving DecidableEq, Repr

/-- The pair of operation and operand that an instruction stands for: the value of the dispatch table (R104). -/
def Instr.form : Instr → Operation × Operand
  | .hlt => (.hlt, .imp)
  | .oraIzx zp => (.ora, .mem (.izx zp))
  | .sloIzx zp => (.slo, .mem (.izx zp))
  | .skbZp04 zp => (.skb, .mem (.zp zp))
  | .oraZp zp => (.ora, .mem (.zp zp))
  | .aslZp zp => (.asl, .mem (.zp zp))
  | .sloZp zp => (.slo, .mem (.zp zp))
  | .php => (.php, .imp)
  | .oraImm v => (.ora, .imm v)
  | .aslAcc => (.asl, .acc)
  | .skwAbs addr => (.skw, .mem (.abs addr))
  | .oraAbs addr => (.ora, .mem (.abs addr))
  | .aslAbs addr => (.asl, .mem (.abs addr))
  | .sloAbs addr => (.slo, .mem (.abs addr))
  | .bpl d => (.bpl, .rel d)
  | .oraIzy zp => (.ora, .mem (.izy zp))
  | .sloIzy zp => (.slo, .mem (.izy zp))
  | .skbZpx14 zp => (.skb, .mem (.zpx zp))
  | .oraZpx zp => (.ora, .mem (.zpx zp))
  | .aslZpx zp => (.asl, .mem (.zpx zp))
  | .sloZpx zp => (.slo, .mem (.zpx zp))
  | .clc => (.clc, .imp)
  | .oraAby addr => (.ora, .mem (.aby addr))
  | .nop1A => (.nop, .imp)
  | .sloAby addr => (.slo, .mem (.aby addr))
  | .skwAbx1C addr => (.skw, .mem (.abx addr))
  | .oraAbx addr => (.ora, .mem (.abx addr))
  | .aslAbx addr => (.asl, .mem (.abx addr))
  | .sloAbx addr => (.slo, .mem (.abx addr))
  | .jsr addr => (.jsr, .mem (.abs addr))
  | .andIzx zp => (.and, .mem (.izx zp))
  | .rlaIzx zp => (.rla, .mem (.izx zp))
  | .bitZp zp => (.bit, .mem (.zp zp))
  | .andZp zp => (.and, .mem (.zp zp))
  | .rolZp zp => (.rol, .mem (.zp zp))
  | .rlaZp zp => (.rla, .mem (.zp zp))
  | .plp => (.plp, .imp)
  | .andImm v => (.and, .imm v)
  | .rolAcc => (.rol, .acc)
  | .bitAbs addr => (.bit, .mem (.abs addr))
  | .andAbs addr => (.and, .mem (.abs addr))
  | .rolAbs addr => (.rol, .mem (.abs addr))
  | .rlaAbs addr => (.rla, .mem (.abs addr))
  | .bmi d => (.bmi, .rel d)
  | .andIzy zp => (.and, .mem (.izy zp))
  | .rlaIzy zp => (.rla, .mem (.izy zp))
  | .skbZpx34 zp => (.skb, .mem (.zpx zp))
  | .andZpx zp => (.and, .mem (.zpx zp))
  | .rolZpx zp => (.rol, .mem (.zpx zp))
  | .rlaZpx zp => (.rla, .mem (.zpx zp))
  | .sec => (.sec, .imp)
  | .andAby addr => (.and, .mem (.aby addr))
  | .nop3A => (.nop, .imp)
  | .rlaAby addr => (.rla, .mem (.aby addr))
  | .skwAbx3C addr => (.skw, .mem (.abx addr))
  | .andAbx addr => (.and, .mem (.abx addr))
  | .rolAbx addr => (.rol, .mem (.abx addr))
  | .rlaAbx addr => (.rla, .mem (.abx addr))
  | .rti => (.rti, .imp)
  | .eorIzx zp => (.eor, .mem (.izx zp))
  | .sreIzx zp => (.sre, .mem (.izx zp))
  | .skbZp44 zp => (.skb, .mem (.zp zp))
  | .eorZp zp => (.eor, .mem (.zp zp))
  | .lsrZp zp => (.lsr, .mem (.zp zp))
  | .sreZp zp => (.sre, .mem (.zp zp))
  | .pha => (.pha, .imp)
  | .eorImm v => (.eor, .imm v)
  | .lsrAcc => (.lsr, .acc)
  | .jmpAbs addr => (.jmp, .mem (.abs addr))
  | .eorAbs addr => (.eor, .mem (.abs addr))
  | .lsrAbs addr => (.lsr, .mem (.abs addr))
  | .sreAbs addr => (.sre, .mem (.abs addr))
  | .bvc d => (.bvc, .rel d)
  | .eorIzy zp => (.eor, .mem (.izy zp))
  | .sreIzy zp => (.sre, .mem (.izy zp))
  | .skbZpx54 zp => (.skb, .mem (.zpx zp))
  | .eorZpx zp => (.eor, .mem (.zpx zp))
  | .lsrZpx zp => (.lsr, .mem (.zpx zp))
  | .sreZpx zp => (.sre, .mem (.zpx zp))
  | .cli => (.cli, .imp)
  | .eorAby addr => (.eor, .mem (.aby addr))
  | .nop5A => (.nop, .imp)
  | .sreAby addr => (.sre, .mem (.aby addr))
  | .skwAbx5C addr => (.skw, .mem (.abx addr))
  | .eorAbx addr => (.eor, .mem (.abx addr))
  | .lsrAbx addr => (.lsr, .mem (.abx addr))
  | .sreAbx addr => (.sre, .mem (.abx addr))
  | .rts => (.rts, .imp)
  | .adcIzx zp => (.adc, .mem (.izx zp))
  | .rraIzx zp => (.rra, .mem (.izx zp))
  | .skbZp64 zp => (.skb, .mem (.zp zp))
  | .adcZp zp => (.adc, .mem (.zp zp))
  | .rorZp zp => (.ror, .mem (.zp zp))
  | .rraZp zp => (.rra, .mem (.zp zp))
  | .pla => (.pla, .imp)
  | .adcImm v => (.adc, .imm v)
  | .rorAcc => (.ror, .acc)
  | .jmpInd ptr => (.jmp, .ind ptr)
  | .adcAbs addr => (.adc, .mem (.abs addr))
  | .rorAbs addr => (.ror, .mem (.abs addr))
  | .rraAbs addr => (.rra, .mem (.abs addr))
  | .bvs d => (.bvs, .rel d)
  | .adcIzy zp => (.adc, .mem (.izy zp))
  | .rraIzy zp => (.rra, .mem (.izy zp))
  | .skbZpx74 zp => (.skb, .mem (.zpx zp))
  | .adcZpx zp => (.adc, .mem (.zpx zp))
  | .rorZpx zp => (.ror, .mem (.zpx zp))
  | .rraZpx zp => (.rra, .mem (.zpx zp))
  | .sei => (.sei, .imp)
  | .adcAby addr => (.adc, .mem (.aby addr))
  | .nop7A => (.nop, .imp)
  | .rraAby addr => (.rra, .mem (.aby addr))
  | .skwAbx7C addr => (.skw, .mem (.abx addr))
  | .adcAbx addr => (.adc, .mem (.abx addr))
  | .rorAbx addr => (.ror, .mem (.abx addr))
  | .rraAbx addr => (.rra, .mem (.abx addr))
  | .skbImm v => (.skb, .imm v)
  | .staIzx zp => (.sta, .mem (.izx zp))
  | .aaxIzx zp => (.aax, .mem (.izx zp))
  | .styZp zp => (.sty, .mem (.zp zp))
  | .staZp zp => (.sta, .mem (.zp zp))
  | .stxZp zp => (.stx, .mem (.zp zp))
  | .aaxZp zp => (.aax, .mem (.zp zp))
  | .dey => (.dey, .imp)
  | .txa => (.txa, .imp)
  | .styAbs addr => (.sty, .mem (.abs addr))
  | .staAbs addr => (.sta, .mem (.abs addr))
  | .stxAbs addr => (.stx, .mem (.abs addr))
  | .aaxAbs addr => (.aax, .mem (.abs addr))
  | .bcc d => (.bcc, .rel d)
  | .staIzy zp => (.sta, .mem (.izy zp))
  | .styZpx zp => (.sty, .mem (.zpx zp))
  | .staZpx zp => (.sta, .mem (.zpx zp))
  | .stxZpy zp => (.stx, .mem (.zpy zp))
  | .aaxZpy zp => (.aax, .mem (.zpy zp))
  | .tya => (.tya, .imp)
  | .staAby addr => (.sta, .mem (.aby addr))
  | .txs => (.txs, .imp)
  | .staAbx addr => (.sta, .mem (.abx addr))
  | .ldyImm v => (.ldy, .imm v)
  | .ldaIzx zp => (.lda, .mem (.izx zp))
  | .ldxImm v => (.ldx, .imm v)
  | .laxIzx zp => (.lax, .mem (.izx zp))
  | .ldyZp zp => (.ldy, .mem (.zp zp))
  | .ldaZp zp => (.lda, .mem (.zp zp))
  | .ldxZp zp => (.ldx, .mem (.zp zp))
  | .laxZp zp => (.lax, .mem (.zp zp))
  | .tay => (.tay, .imp)
  | .ldaImm v => (.lda, .imm v)
  | .tax => (.tax, .imp)
  | .ldyAbs addr => (.ldy, .mem (.abs addr))
  | .ldaAbs addr => (.lda, .mem (.abs addr))
  | .ldxAbs addr => (.ldx, .mem (.abs addr))
  | .laxAbs addr => (.lax, .mem (.abs addr))
  | .bcs d => (.bcs, .rel d)
  | .ldaIzy zp => (.lda, .mem (.izy zp))
  | .laxIzy zp => (.lax, .mem (.izy zp))
  | .ldyZpx zp => (.ldy, .mem (.zpx zp))
  | .ldaZpx zp => (.lda, .mem (.zpx zp))
  | .ldxZpy zp => (.ldx, .mem (.zpy zp))
  | .laxZpy zp => (.lax, .mem (.zpy zp))
  | .clv => (.clv, .imp)
  | .ldaAby addr => (.lda, .mem (.aby addr))
  | .tsx => (.tsx, .imp)
  | .ldyAbx addr => (.ldy, .mem (.abx addr))
  | .ldaAbx addr => (.lda, .mem (.abx addr))
  | .ldxAby addr => (.ldx, .mem (.aby addr))
  | .laxAby addr => (.lax, .mem (.aby addr))
  | .cpyImm v => (.cpy, .imm v)
  | .cmpIzx zp => (.cmp, .mem (.izx zp))
  | .dcpIzx zp => (.dcp, .mem (.izx zp))
  | .cpyZp zp => (.cpy, .mem (.zp zp))
  | .cmpZp zp => (.cmp, .mem (.zp zp))
  | .decZp zp => (.dec, .mem (.zp zp))
  | .dcpZp zp => (.dcp, .mem (.zp zp))
  | .iny => (.iny, .imp)
  | .cmpImm v => (.cmp, .imm v)
  | .dex => (.dex, .imp)
  | .cpyAbs addr => (.cpy, .mem (.abs addr))
  | .cmpAbs addr => (.cmp, .mem (.abs addr))
  | .decAbs addr => (.dec, .mem (.abs addr))
  | .dcpAbs addr => (.dcp, .mem (.abs addr))
  | .bne d => (.bne, .rel d)
  | .cmpIzy zp => (.cmp, .mem (.izy zp))
  | .dcpIzy zp => (.dcp, .mem (.izy zp))
  | .skbZpxD4 zp => (.skb, .mem (.zpx zp))
  | .cmpZpx zp => (.cmp, .mem (.zpx zp))
  | .decZpx zp => (.dec, .mem (.zpx zp))
  | .dcpZpx zp => (.dcp, .mem (.zpx zp))
  | .cld => (.cld, .imp)
  | .cmpAby addr => (.cmp, .mem (.aby addr))
  | .nopDA => (.nop, .imp)
  | .dcpAby addr => (.dcp, .mem (.aby addr))
  | .skwAbxDC addr => (.skw, .mem (.abx addr))
  | .cmpAbx addr => (.cmp, .mem (.abx addr))
  | .decAbx addr => (.dec, .mem (.abx addr))
  | .dcpAbx addr => (.dcp, .mem (.abx addr))
  | .cpxImm v => (.cpx, .imm v)
  | .sbcIzx zp => (.sbc, .mem (.izx zp))
  | .iscIzx zp => (.isc, .mem (.izx zp))
  | .cpxZp zp => (.cpx, .mem (.zp zp))
  | .sbcZp zp => (.sbc, .mem (.zp zp))
  | .incZp zp => (.inc, .mem (.zp zp))
  | .iscZp zp => (.isc, .mem (.zp zp))
  | .inx => (.inx, .imp)
  | .sbcImm v => (.sbc, .imm v)
  | .nop => (.nop, .imp)
  | .sbcImmEB v => (.sbc, .imm v)
  | .cpxAbs addr => (.cpx, .mem (.abs addr))
  | .sbcAbs addr => (.sbc, .mem (.abs addr))
  | .incAbs addr => (.inc, .mem (.abs addr))
  | .iscAbs addr => (.isc, .mem (.abs addr))
  | .beq d => (.beq, .rel d)
  | .sbcIzy zp => (.sbc, .mem (.izy zp))
  | .iscIzy zp => (.isc, .mem (.izy zp))
  | .skbZpxF4 zp => (.skb, .mem (.zpx zp))
  | .sbcZpx zp => (.sbc, .mem (.zpx zp))
  | .incZpx zp => (.inc, .mem (.zpx zp))
  | .iscZpx zp => (.isc, .mem (.zpx zp))
  | .sed => (.sed, .imp)
  | .sbcAby addr => (.sbc, .mem (.aby addr))
  | .nopFA => (.nop, .imp)
  | .iscAby addr => (.isc, .mem (.aby addr))
  | .skwAbxFC addr => (.skw, .mem (.abx addr))
  | .sbcAbx addr => (.sbc, .mem (.abx addr))
  | .incAbx addr => (.inc, .mem (.abx addr))
  | .iscAbx addr => (.isc, .mem (.abx addr))

/-- The operation of an instruction (R104). -/
def Instr.operation (i : Instr) : Operation := i.form.1

/-- The operand of an instruction, its format the instruction's format (R101, R104). -/
def Instr.operand (i : Instr) : Operand := i.form.2

end Sys2Proof
end

