-- ==== Sys2Proof/Machine/Flags.lean ====
section
/-! DEFINITION. The flag computations: `SetZN`, the packed status byte, add, compare, the shifts, and the
condition each branch tests (40_cpu_common.md R146, R150, R151; 42_arith_logic.md R205 to R207;
43_shift_rotate.md R224; 45_control.md R250 to R257). -/

namespace Sys2Proof.Machine

/-- `SetZN(v)` (R146). -/
def setZN (v : Byte) (s : State) : State :=
  s.setP { s.p with z := decide (v = 0#8), n := v.getLsbD 7 }

/-- The carry flag replaced. -/
def setC (c : Bool) (s : State) : State := s.setP { s.p with c := c }

/-- `PackP()`: N V 1 B D I Z C, bit 7 first (R150, 10_state.md R25). -/
def Flags.pack (p : Flags) : Byte :=
  BitVec.ofBool p.n ++ BitVec.ofBool p.v ++ 1#1 ++ BitVec.ofBool p.b ++
    BitVec.ofBool p.d ++ BitVec.ofBool p.i ++ BitVec.ofBool p.z ++ BitVec.ofBool p.c

/-- `UnpackP(b)` into the flags `p`: bit 5 is discarded, bit 4 follows `PULL_B_POLICY` (R151). -/
def Flags.unpack (policy : PullBPolicy) (b : Byte) (p : Flags) : Flags where
  n := b.getLsbD 7
  v := b.getLsbD 6
  b := match policy with
    | .load => b.getLsbD 4
    | .keep => p.b
  d := b.getLsbD 3
  i := b.getLsbD 2
  z := b.getLsbD 1
  c := b.getLsbD 0

/-- `UnpackP(b)` on the state (R151). -/
def unpackP (b : Byte) (s : State) : State := s.setP (s.p.unpack s.cfg.pullB b)

/-- `AddWithCarry(m)`: always binary, whatever `D` (R205, R206). -/
def addWithCarry (m : Byte) (s : State) : State :=
  let sum := s.a.toNat + m.toNat + s.p.c.toNat
  let r := BitVec.ofNat 8 sum
  let v := decide (s.a.getLsbD 7 = m.getLsbD 7 ∧ r.getLsbD 7 ≠ s.a.getLsbD 7)
  setZN r ((s.setP { s.p with c := decide (255 < sum), v := v }).setA r)

/-- `Compare(r, m)`: carry when no borrow occurred (R207). -/
def compareWith (r m : Byte) (s : State) : State :=
  setZN (r - m) (setC (decide (m.toNat ≤ r.toNat)) s)

/-- `Asl(v)`: the new byte and the carry out (R224). -/
def asl (v : Byte) : Byte × Bool := (v <<< 1, v.getLsbD 7)

/-- `Lsr(v)` (R224). -/
def lsr (v : Byte) : Byte × Bool := (v >>> 1, v.getLsbD 0)

/-- `Rol(v, c)`: bit 0 becomes the old carry (R224). -/
def rol (c : Bool) (v : Byte) : Byte × Bool := (v.extractLsb' 0 7 ++ BitVec.ofBool c, v.getLsbD 7)

/-- `Ror(v, c)`: bit 7 becomes the old carry (R224). -/
def ror (c : Bool) (v : Byte) : Byte × Bool := (BitVec.ofBool c ++ v.extractLsb' 1 7, v.getLsbD 0)

/-- The condition a branch tests; false for every other operation (45_control.md R250 to R257). -/
def branchTaken (op : Operation) (p : Flags) : Bool :=
  match op with
  | .bpl => !p.n
  | .bmi => p.n
  | .bvc => !p.v
  | .bvs => p.v
  | .bcc => !p.c
  | .bcs => p.c
  | .bne => !p.z
  | .beq => p.z
  | _ => false

end Sys2Proof.Machine
end

