-- ==== Sys2Proof/WellFormed.lean ====
section
/-! DEFINITION. Which instructions are well formed: those whose operand the encoding can hold. Bytes and words fit
by their type; a branch offset must lie in -128..127 (40_cpu_common.md R144; notes/assumptions/15.md). There are
no reserved fields (30_encoding.md R109). -/

namespace Sys2Proof

/-- The operand fits its operand bytes (R101, R144). -/
def Operand.wf : Operand → Bool
  | .rel d => decide (-128 ≤ d ∧ d ≤ 127)
  | .imp | .acc | .imm _ | .mem _ | .ind _ => true

/-- The instruction can be encoded. -/
def Instr.wf (i : Instr) : Bool := i.operand.wf

end Sys2Proof
end

