-- ==== Sys2Proof/Decode.lean ====
section
/-! DEFINITION. The decoder and, after it, the encoder (30_encoding.md R100 to R108). -/

namespace Sys2Proof

/-- `{hi, lo}` (00_scope.md R1; 30_encoding.md R102). -/
def wordOf (hi lo : Byte) : Word := hi ++ lo

/-- Bits 15..8. -/
def hiByte (w : Word) : Byte := w.extractLsb' 8 8

/-- Bits 7..0. -/
def loByte (w : Word) : Byte := w.extractLsb' 0 8

/-- `sext_8(b)` (00_scope.md R2). -/
def sext8 (b : Byte) : Int := b.toInt

/-- A slot of the dispatch table: how the operand bytes that follow the opcode make the instruction (R101, R104). -/
inductive OpcodeRow where
  /-- No operand byte (IMP, ACC). -/
  | bare (i : Instr)
  /-- One operand byte (IMM, ZP, ZPX, ZPY, IZX, IZY). -/
  | byte (make : Byte → Instr)
  /-- Two operand bytes, low byte first (ABS, ABX, ABY, IND). -/
  | word (make : Word → Instr)
  /-- One signed operand byte (REL). -/
  | offset (make : Int → Instr)

/-- The length in bytes of an instruction of this row (R101, R103). -/
def OpcodeRow.length : OpcodeRow → Nat
  | .bare _ => 1
  | .byte _ => 2
  | .word _ => 3
  | .offset _ => 2

/-- Opcode bytes 00 to 0F, in order (R104); `none` is an unmapped byte (R107). -/
def dispatchRow0 : List (Option OpcodeRow) := [
  some (.bare .hlt), some (.byte .oraIzx), none, some (.byte .sloIzx),
  some (.byte .skbZp04), some (.byte .oraZp), some (.byte .aslZp), some (.byte .sloZp),
  some (.bare .php), some (.byte .oraImm), some (.bare .aslAcc), none,
  some (.word .skwAbs), some (.word .oraAbs), some (.word .aslAbs), some (.word .sloAbs)]

/-- Opcode bytes 10 to 1F, in order (R104); `none` is an unmapped byte (R107). -/
def dispatchRow1 : List (Option OpcodeRow) := [
  some (.offset .bpl), some (.byte .oraIzy), none, some (.byte .sloIzy),
  some (.byte .skbZpx14), some (.byte .oraZpx), some (.byte .aslZpx), some (.byte .sloZpx),
  some (.bare .clc), some (.word .oraAby), some (.bare .nop1A), some (.word .sloAby),
  some (.word .skwAbx1C), some (.word .oraAbx), some (.word .aslAbx), some (.word .sloAbx)]

/-- Opcode bytes 20 to 2F, in order (R104); `none` is an unmapped byte (R107). -/
def dispatchRow2 : List (Option OpcodeRow) := [
  some (.word .jsr), some (.byte .andIzx), none, some (.byte .rlaIzx),
  some (.byte .bitZp), some (.byte .andZp), some (.byte .rolZp), some (.byte .rlaZp),
  some (.bare .plp), some (.byte .andImm), some (.bare .rolAcc), none,
  some (.word .bitAbs), some (.word .andAbs), some (.word .rolAbs), some (.word .rlaAbs)]

/-- Opcode bytes 30 to 3F, in order (R104); `none` is an unmapped byte (R107). -/
def dispatchRow3 : List (Option OpcodeRow) := [
  some (.offset .bmi), some (.byte .andIzy), none, some (.byte .rlaIzy),
  some (.byte .skbZpx34), some (.byte .andZpx), some (.byte .rolZpx), some (.byte .rlaZpx),
  some (.bare .sec), some (.word .andAby), some (.bare .nop3A), some (.word .rlaAby),
  some (.word .skwAbx3C), some (.word .andAbx), some (.word .rolAbx), some (.word .rlaAbx)]

/-- Opcode bytes 40 to 4F, in order (R104); `none` is an unmapped byte (R107). -/
def dispatchRow4 : List (Option OpcodeRow) := [
  some (.bare .rti), some (.byte .eorIzx), none, some (.byte .sreIzx),
  some (.byte .skbZp44), some (.byte .eorZp), some (.byte .lsrZp), some (.byte .sreZp),
  some (.bare .pha), some (.byte .eorImm), some (.bare .lsrAcc), none,
  some (.word .jmpAbs), some (.word .eorAbs), some (.word .lsrAbs), some (.word .sreAbs)]

/-- Opcode bytes 50 to 5F, in order (R104); `none` is an unmapped byte (R107). -/
def dispatchRow5 : List (Option OpcodeRow) := [
  some (.offset .bvc), some (.byte .eorIzy), none, some (.byte .sreIzy),
  some (.byte .skbZpx54), some (.byte .eorZpx), some (.byte .lsrZpx), some (.byte .sreZpx),
  some (.bare .cli), some (.word .eorAby), some (.bare .nop5A), some (.word .sreAby),
  some (.word .skwAbx5C), some (.word .eorAbx), some (.word .lsrAbx), some (.word .sreAbx)]

/-- Opcode bytes 60 to 6F, in order (R104); `none` is an unmapped byte (R107). -/
def dispatchRow6 : List (Option OpcodeRow) := [
  some (.bare .rts), some (.byte .adcIzx), none, some (.byte .rraIzx),
  some (.byte .skbZp64), some (.byte .adcZp), some (.byte .rorZp), some (.byte .rraZp),
  some (.bare .pla), some (.byte .adcImm), some (.bare .rorAcc), none,
  some (.word .jmpInd), some (.word .adcAbs), some (.word .rorAbs), some (.word .rraAbs)]

/-- Opcode bytes 70 to 7F, in order (R104); `none` is an unmapped byte (R107). -/
def dispatchRow7 : List (Option OpcodeRow) := [
  some (.offset .bvs), some (.byte .adcIzy), none, some (.byte .rraIzy),
  some (.byte .skbZpx74), some (.byte .adcZpx), some (.byte .rorZpx), some (.byte .rraZpx),
  some (.bare .sei), some (.word .adcAby), some (.bare .nop7A), some (.word .rraAby),
  some (.word .skwAbx7C), some (.word .adcAbx), some (.word .rorAbx), some (.word .rraAbx)]

/-- Opcode bytes 80 to 8F, in order (R104); `none` is an unmapped byte (R107). -/
def dispatchRow8 : List (Option OpcodeRow) := [
  some (.byte .skbImm), some (.byte .staIzx), none, some (.byte .aaxIzx),
  some (.byte .styZp), some (.byte .staZp), some (.byte .stxZp), some (.byte .aaxZp),
  some (.bare .dey), none, some (.bare .txa), none,
  some (.word .styAbs), some (.word .staAbs), some (.word .stxAbs), some (.word .aaxAbs)]

/-- Opcode bytes 90 to 9F, in order (R104); `none` is an unmapped byte (R107). -/
def dispatchRow9 : List (Option OpcodeRow) := [
  some (.offset .bcc), some (.byte .staIzy), none, none,
  some (.byte .styZpx), some (.byte .staZpx), some (.byte .stxZpy), some (.byte .aaxZpy),
  some (.bare .tya), some (.word .staAby), some (.bare .txs), none,
  none, some (.word .staAbx), none, none]

/-- Opcode bytes A0 to AF, in order (R104); `none` is an unmapped byte (R107). -/
def dispatchRowA : List (Option OpcodeRow) := [
  some (.byte .ldyImm), some (.byte .ldaIzx), some (.byte .ldxImm), some (.byte .laxIzx),
  some (.byte .ldyZp), some (.byte .ldaZp), some (.byte .ldxZp), some (.byte .laxZp),
  some (.bare .tay), some (.byte .ldaImm), some (.bare .tax), none,
  some (.word .ldyAbs), some (.word .ldaAbs), some (.word .ldxAbs), some (.word .laxAbs)]

/-- Opcode bytes B0 to BF, in order (R104); `none` is an unmapped byte (R107). -/
def dispatchRowB : List (Option OpcodeRow) := [
  some (.offset .bcs), some (.byte .ldaIzy), none, some (.byte .laxIzy),
  some (.byte .ldyZpx), some (.byte .ldaZpx), some (.byte .ldxZpy), some (.byte .laxZpy),
  some (.bare .clv), some (.word .ldaAby), some (.bare .tsx), none,
  some (.word .ldyAbx), some (.word .ldaAbx), some (.word .ldxAby), some (.word .laxAby)]

/-- Opcode bytes C0 to CF, in order (R104); `none` is an unmapped byte (R107). -/
def dispatchRowC : List (Option OpcodeRow) := [
  some (.byte .cpyImm), some (.byte .cmpIzx), none, some (.byte .dcpIzx),
  some (.byte .cpyZp), some (.byte .cmpZp), some (.byte .decZp), some (.byte .dcpZp),
  some (.bare .iny), some (.byte .cmpImm), some (.bare .dex), none,
  some (.word .cpyAbs), some (.word .cmpAbs), some (.word .decAbs), some (.word .dcpAbs)]

/-- Opcode bytes D0 to DF, in order (R104); `none` is an unmapped byte (R107). -/
def dispatchRowD : List (Option OpcodeRow) := [
  some (.offset .bne), some (.byte .cmpIzy), none, some (.byte .dcpIzy),
  some (.byte .skbZpxD4), some (.byte .cmpZpx), some (.byte .decZpx), some (.byte .dcpZpx),
  some (.bare .cld), some (.word .cmpAby), some (.bare .nopDA), some (.word .dcpAby),
  some (.word .skwAbxDC), some (.word .cmpAbx), some (.word .decAbx), some (.word .dcpAbx)]

/-- Opcode bytes E0 to EF, in order (R104); `none` is an unmapped byte (R107). -/
def dispatchRowE : List (Option OpcodeRow) := [
  some (.byte .cpxImm), some (.byte .sbcIzx), none, some (.byte .iscIzx),
  some (.byte .cpxZp), some (.byte .sbcZp), some (.byte .incZp), some (.byte .iscZp),
  some (.bare .inx), some (.byte .sbcImm), some (.bare .nop), some (.byte .sbcImmEB),
  some (.word .cpxAbs), some (.word .sbcAbs), some (.word .incAbs), some (.word .iscAbs)]

/-- Opcode bytes F0 to FF, in order (R104); `none` is an unmapped byte (R107). -/
def dispatchRowF : List (Option OpcodeRow) := [
  some (.offset .beq), some (.byte .sbcIzy), none, some (.byte .iscIzy),
  some (.byte .skbZpxF4), some (.byte .sbcZpx), some (.byte .incZpx), some (.byte .iscZpx),
  some (.bare .sed), some (.word .sbcAby), some (.bare .nopFA), some (.word .iscAby),
  some (.word .skwAbxFC), some (.word .sbcAbx), some (.word .incAbx), some (.word .iscAbx)]

/-- The grid of R104, a row for each high nibble. -/
def dispatchTable : List (List (Option OpcodeRow)) := [
  dispatchRow0, dispatchRow1, dispatchRow2, dispatchRow3, dispatchRow4, dispatchRow5, dispatchRow6, dispatchRow7,
  dispatchRow8, dispatchRow9, dispatchRowA, dispatchRowB, dispatchRowC, dispatchRowD, dispatchRowE, dispatchRowF]

/-- The entry of a 16 x 16 grid at row `n / 16`, column `n % 16`. -/
def gridEntry {α : Type} (grid : List (List α)) (n : Nat) : Option α :=
  match grid[n / 16]? with
  | some row => row[n % 16]?
  | none => none

/-- `DISPATCH`: total on the 256 opcode bytes, `none` on the unmapped ones (R104, R107). -/
def dispatch (op : Byte) : Option OpcodeRow :=
  match gridEntry dispatchTable op.toNat with
  | some row => row
  | none => none

/-- Why bytes are no instruction. -/
inductive DecodeError where
  /-- The first byte has no dispatch entry (R107). -/
  | unknownOpcode (op : Byte)
  /-- There is no first byte, or fewer operand bytes than the opcode's length asks for (R103). -/
  | truncated
  deriving DecidableEq, Repr

/-- The instruction at the head of a list of bytes, and the bytes after it (R100 to R103). -/
def decode : List Byte → Except DecodeError (Instr × List Byte)
  | [] => .error .truncated
  | op :: bytes =>
    match dispatch op, bytes with
    | none, _ => .error (.unknownOpcode op)
    | some (.bare i), rest => .ok (i, rest)
    | some (.byte make), b :: rest => .ok (make b, rest)
    | some (.word make), lo :: hi :: rest => .ok (make (wordOf hi lo), rest)
    | some (.offset make), b :: rest => .ok (make (sext8 b), rest)
    | some (.byte _), [] => .error .truncated
    | some (.word _), [] => .error .truncated
    | some (.word _), [_] => .error .truncated
    | some (.offset _), [] => .error .truncated

/-- The three bytes that a table word of `nbits` bits numbers, bit 0 the least of the first byte; the bits above
are zero. Three is the longest instruction (R100). -/
def tableBytes (nbits w : Nat) : List Byte :=
  let n := w % 2 ^ nbits
  [BitVec.ofNat 8 n, BitVec.ofNat 8 (n / 256), BitVec.ofNat 8 (n / 65536)]

/-- The instruction that the decoder reads from a word numbered as opcode_table.json numbers it. -/
def decodeTableWord (nbits w : Nat) : Option Instr :=
  match decode (tableBytes nbits w) with
  | .ok (i, _) => some i
  | .error _ => none

/-- The operand bytes of a memory operand, an address low byte first (R101, R102). -/
def MemMode.bytes : MemMode → List Byte
  | .zp z => [z]
  | .zpx z => [z]
  | .zpy z => [z]
  | .abs addr => [loByte addr, hiByte addr]
  | .abx addr => [loByte addr, hiByte addr]
  | .aby addr => [loByte addr, hiByte addr]
  | .izx z => [z]
  | .izy z => [z]

/-- The operand bytes (R101, R102, R144). -/
def Operand.bytes : Operand → List Byte
  | .imp => []
  | .acc => []
  | .imm v => [v]
  | .mem m => m.bytes
  | .ind ptr => [loByte ptr, hiByte ptr]
  | .rel d => [BitVec.ofInt 8 d]

/-- The opcode byte (R105, R106, R108). -/
def Instr.opcode : Instr → Byte
  | .hlt => 0x00#8
  | .oraIzx _ => 0x01#8
  | .sloIzx _ => 0x03#8
  | .skbZp04 _ => 0x04#8
  | .oraZp _ => 0x05#8
  | .aslZp _ => 0x06#8
  | .sloZp _ => 0x07#8
  | .php => 0x08#8
  | .oraImm _ => 0x09#8
  | .aslAcc => 0x0A#8
  | .skwAbs _ => 0x0C#8
  | .oraAbs _ => 0x0D#8
  | .aslAbs _ => 0x0E#8
  | .sloAbs _ => 0x0F#8
  | .bpl _ => 0x10#8
  | .oraIzy _ => 0x11#8
  | .sloIzy _ => 0x13#8
  | .skbZpx14 _ => 0x14#8
  | .oraZpx _ => 0x15#8
  | .aslZpx _ => 0x16#8
  | .sloZpx _ => 0x17#8
  | .clc => 0x18#8
  | .oraAby _ => 0x19#8
  | .nop1A => 0x1A#8
  | .sloAby _ => 0x1B#8
  | .skwAbx1C _ => 0x1C#8
  | .oraAbx _ => 0x1D#8
  | .aslAbx _ => 0x1E#8
  | .sloAbx _ => 0x1F#8
  | .jsr _ => 0x20#8
  | .andIzx _ => 0x21#8
  | .rlaIzx _ => 0x23#8
  | .bitZp _ => 0x24#8
  | .andZp _ => 0x25#8
  | .rolZp _ => 0x26#8
  | .rlaZp _ => 0x27#8
  | .plp => 0x28#8
  | .andImm _ => 0x29#8
  | .rolAcc => 0x2A#8
  | .bitAbs _ => 0x2C#8
  | .andAbs _ => 0x2D#8
  | .rolAbs _ => 0x2E#8
  | .rlaAbs _ => 0x2F#8
  | .bmi _ => 0x30#8
  | .andIzy _ => 0x31#8
  | .rlaIzy _ => 0x33#8
  | .skbZpx34 _ => 0x34#8
  | .andZpx _ => 0x35#8
  | .rolZpx _ => 0x36#8
  | .rlaZpx _ => 0x37#8
  | .sec => 0x38#8
  | .andAby _ => 0x39#8
  | .nop3A => 0x3A#8
  | .rlaAby _ => 0x3B#8
  | .skwAbx3C _ => 0x3C#8
  | .andAbx _ => 0x3D#8
  | .rolAbx _ => 0x3E#8
  | .rlaAbx _ => 0x3F#8
  | .rti => 0x40#8
  | .eorIzx _ => 0x41#8
  | .sreIzx _ => 0x43#8
  | .skbZp44 _ => 0x44#8
  | .eorZp _ => 0x45#8
  | .lsrZp _ => 0x46#8
  | .sreZp _ => 0x47#8
  | .pha => 0x48#8
  | .eorImm _ => 0x49#8
  | .lsrAcc => 0x4A#8
  | .jmpAbs _ => 0x4C#8
  | .eorAbs _ => 0x4D#8
  | .lsrAbs _ => 0x4E#8
  | .sreAbs _ => 0x4F#8
  | .bvc _ => 0x50#8
  | .eorIzy _ => 0x51#8
  | .sreIzy _ => 0x53#8
  | .skbZpx54 _ => 0x54#8
  | .eorZpx _ => 0x55#8
  | .lsrZpx _ => 0x56#8
  | .sreZpx _ => 0x57#8
  | .cli => 0x58#8
  | .eorAby _ => 0x59#8
  | .nop5A => 0x5A#8
  | .sreAby _ => 0x5B#8
  | .skwAbx5C _ => 0x5C#8
  | .eorAbx _ => 0x5D#8
  | .lsrAbx _ => 0x5E#8
  | .sreAbx _ => 0x5F#8
  | .rts => 0x60#8
  | .adcIzx _ => 0x61#8
  | .rraIzx _ => 0x63#8
  | .skbZp64 _ => 0x64#8
  | .adcZp _ => 0x65#8
  | .rorZp _ => 0x66#8
  | .rraZp _ => 0x67#8
  | .pla => 0x68#8
  | .adcImm _ => 0x69#8
  | .rorAcc => 0x6A#8
  | .jmpInd _ => 0x6C#8
  | .adcAbs _ => 0x6D#8
  | .rorAbs _ => 0x6E#8
  | .rraAbs _ => 0x6F#8
  | .bvs _ => 0x70#8
  | .adcIzy _ => 0x71#8
  | .rraIzy _ => 0x73#8
  | .skbZpx74 _ => 0x74#8
  | .adcZpx _ => 0x75#8
  | .rorZpx _ => 0x76#8
  | .rraZpx _ => 0x77#8
  | .sei => 0x78#8
  | .adcAby _ => 0x79#8
  | .nop7A => 0x7A#8
  | .rraAby _ => 0x7B#8
  | .skwAbx7C _ => 0x7C#8
  | .adcAbx _ => 0x7D#8
  | .rorAbx _ => 0x7E#8
  | .rraAbx _ => 0x7F#8
  | .skbImm _ => 0x80#8
  | .staIzx _ => 0x81#8
  | .aaxIzx _ => 0x83#8
  | .styZp _ => 0x84#8
  | .staZp _ => 0x85#8
  | .stxZp _ => 0x86#8
  | .aaxZp _ => 0x87#8
  | .dey => 0x88#8
  | .txa => 0x8A#8
  | .styAbs _ => 0x8C#8
  | .staAbs _ => 0x8D#8
  | .stxAbs _ => 0x8E#8
  | .aaxAbs _ => 0x8F#8
  | .bcc _ => 0x90#8
  | .staIzy _ => 0x91#8
  | .styZpx _ => 0x94#8
  | .staZpx _ => 0x95#8
  | .stxZpy _ => 0x96#8
  | .aaxZpy _ => 0x97#8
  | .tya => 0x98#8
  | .staAby _ => 0x99#8
  | .txs => 0x9A#8
  | .staAbx _ => 0x9D#8
  | .ldyImm _ => 0xA0#8
  | .ldaIzx _ => 0xA1#8
  | .ldxImm _ => 0xA2#8
  | .laxIzx _ => 0xA3#8
  | .ldyZp _ => 0xA4#8
  | .ldaZp _ => 0xA5#8
  | .ldxZp _ => 0xA6#8
  | .laxZp _ => 0xA7#8
  | .tay => 0xA8#8
  | .ldaImm _ => 0xA9#8
  | .tax => 0xAA#8
  | .ldyAbs _ => 0xAC#8
  | .ldaAbs _ => 0xAD#8
  | .ldxAbs _ => 0xAE#8
  | .laxAbs _ => 0xAF#8
  | .bcs _ => 0xB0#8
  | .ldaIzy _ => 0xB1#8
  | .laxIzy _ => 0xB3#8
  | .ldyZpx _ => 0xB4#8
  | .ldaZpx _ => 0xB5#8
  | .ldxZpy _ => 0xB6#8
  | .laxZpy _ => 0xB7#8
  | .clv => 0xB8#8
  | .ldaAby _ => 0xB9#8
  | .tsx => 0xBA#8
  | .ldyAbx _ => 0xBC#8
  | .ldaAbx _ => 0xBD#8
  | .ldxAby _ => 0xBE#8
  | .laxAby _ => 0xBF#8
  | .cpyImm _ => 0xC0#8
  | .cmpIzx _ => 0xC1#8
  | .dcpIzx _ => 0xC3#8
  | .cpyZp _ => 0xC4#8
  | .cmpZp _ => 0xC5#8
  | .decZp _ => 0xC6#8
  | .dcpZp _ => 0xC7#8
  | .iny => 0xC8#8
  | .cmpImm _ => 0xC9#8
  | .dex => 0xCA#8
  | .cpyAbs _ => 0xCC#8
  | .cmpAbs _ => 0xCD#8
  | .decAbs _ => 0xCE#8
  | .dcpAbs _ => 0xCF#8
  | .bne _ => 0xD0#8
  | .cmpIzy _ => 0xD1#8
  | .dcpIzy _ => 0xD3#8
  | .skbZpxD4 _ => 0xD4#8
  | .cmpZpx _ => 0xD5#8
  | .decZpx _ => 0xD6#8
  | .dcpZpx _ => 0xD7#8
  | .cld => 0xD8#8
  | .cmpAby _ => 0xD9#8
  | .nopDA => 0xDA#8
  | .dcpAby _ => 0xDB#8
  | .skwAbxDC _ => 0xDC#8
  | .cmpAbx _ => 0xDD#8
  | .decAbx _ => 0xDE#8
  | .dcpAbx _ => 0xDF#8
  | .cpxImm _ => 0xE0#8
  | .sbcIzx _ => 0xE1#8
  | .iscIzx _ => 0xE3#8
  | .cpxZp _ => 0xE4#8
  | .sbcZp _ => 0xE5#8
  | .incZp _ => 0xE6#8
  | .iscZp _ => 0xE7#8
  | .inx => 0xE8#8
  | .sbcImm _ => 0xE9#8
  | .nop => 0xEA#8
  | .sbcImmEB _ => 0xEB#8
  | .cpxAbs _ => 0xEC#8
  | .sbcAbs _ => 0xED#8
  | .incAbs _ => 0xEE#8
  | .iscAbs _ => 0xEF#8
  | .beq _ => 0xF0#8
  | .sbcIzy _ => 0xF1#8
  | .iscIzy _ => 0xF3#8
  | .skbZpxF4 _ => 0xF4#8
  | .sbcZpx _ => 0xF5#8
  | .incZpx _ => 0xF6#8
  | .iscZpx _ => 0xF7#8
  | .sed => 0xF8#8
  | .sbcAby _ => 0xF9#8
  | .nopFA => 0xFA#8
  | .iscAby _ => 0xFB#8
  | .skwAbxFC _ => 0xFC#8
  | .sbcAbx _ => 0xFD#8
  | .incAbx _ => 0xFE#8
  | .iscAbx _ => 0xFF#8

/-- The bytes of an instruction: the opcode, then the operand (R100). -/
def encode (i : Instr) : List Byte := i.opcode :: i.operand.bytes

end Sys2Proof
end

