-- ==== Sys2Proof/Machine/Ppu.lean ====
section
/-! DEFINITION. The PpuBus (20_memory.md R73 to R77), the Ppu's register contract (50_ppu.md R300 to R322) and
its timing engine (R323 to R328). -/

namespace Sys2Proof.Machine

/-- The cell that a PpuBus address decodes to; none below 0x2000 (20_memory.md R73 to R77). -/
def ppuTarget (addr : PpuAddr) : Option (Region × Nat) :=
  let n := addr.toNat
  if n < 0x2000 then none
  else if n < 0x3000 then some (.nt, n - 0x2000)
  else if n < 0x3F00 then some (.nt, n - 0x3000)
  else some (.pal, (n - 0x3F00) % 0x20)

/-- `PpuRead` (R73, R74). -/
def ppuRead (addr : PpuAddr) (s : State) : Access Byte :=
  match ppuTarget addr with
  | some (r, i) => readCell r i s
  | none => .fault (.ppuBusUnmapped addr)

/-- `PpuWrite` (R73, R74). -/
def ppuWrite (addr : PpuAddr) (v : Byte) (s : State) : Access Unit :=
  match ppuTarget addr with
  | some (r, i) => writeCell r i v s
  | none => .fault (.ppuBusUnmapped addr)

/-- Go on with an access's value and state, unless it faulted. -/
def Access.andThen {α β : Type} (r : Access α) (k : α → State → Access β) : Access β :=
  match r with
  | .ok value s => k value s
  | .fault f => .fault f

/-- The control byte, fields from bit 7 down (50_ppu.md R303, R320). -/
def PpuCtrl.pack (c : PpuCtrl) : Byte :=
  BitVec.ofBool c.nmiEnable ++ BitVec.ofBool c.masterSlave ++ BitVec.ofBool c.spriteHeight ++
    BitVec.ofBool c.bgPatternTable ++ BitVec.ofBool c.spritePatternTable ++
    BitVec.ofBool c.vramIncrement ++ c.nametableSelect

/-- The seven control fields of a byte (R302, R320). -/
def PpuCtrl.unpack (v : Byte) : PpuCtrl where
  nmiEnable := v.getLsbD 7
  masterSlave := v.getLsbD 6
  spriteHeight := v.getLsbD 5
  bgPatternTable := v.getLsbD 4
  spritePatternTable := v.getLsbD 3
  vramIncrement := v.getLsbD 2
  nametableSelect := v.extractLsb' 0 2

/-- The mask byte (R305, R321). -/
def PpuMask.pack (m : PpuMask) : Byte :=
  m.emphasis ++ BitVec.ofBool m.showSprites ++ BitVec.ofBool m.showBackground ++
    BitVec.ofBool m.spriteLeftColumn ++ BitVec.ofBool m.backgroundLeftColumn ++ BitVec.ofBool m.greyscale

/-- The six mask fields of a byte (R304, R321). -/
def PpuMask.unpack (v : Byte) : PpuMask where
  emphasis := v.extractLsb' 5 3
  showSprites := v.getLsbD 4
  showBackground := v.getLsbD 3
  spriteLeftColumn := v.getLsbD 2
  backgroundLeftColumn := v.getLsbD 1
  greyscale := v.getLsbD 0

/-- The status byte: three flags, five zeros (R306, R322). -/
def PpuStatus.pack (t : PpuStatus) : Byte :=
  BitVec.ofBool t.vblank ++ BitVec.ofBool t.sprite0Hit ++ BitVec.ofBool t.spriteOverflow ++ 0#5

/-- `LatchWrite`: the first byte of a pair is the high one (R311). -/
def Latch.write (l : Latch) (v : Byte) : Latch :=
  match l.toggle with
  | .first => ⟨wordOf v (loByte l.value), .second⟩
  | .second => ⟨wordOf (hiByte l.value) v, .first⟩

/-- The latch with its toggle put back to `first`, its value kept (R306). -/
def Latch.resetToggle (l : Latch) : Latch := { l with toggle := .first }

/-- `Increment()`: the address step of a 0x2007 access (R318). -/
def vramStep (s : State) : Word :=
  match s.cfg.vramIncrement with
  | .standard => if s.ppu.ctrl.vramIncrement then 32#16 else 1#16
  | .off => 0#16

/-- `VADDR.value` moved on by `Increment()` (R316, R317). -/
def advanceVaddr (s : State) : State :=
  s.setPpu { s.ppu with vaddr := { s.ppu.vaddr with value := s.ppu.vaddr.value + vramStep s } }

/-- The 14-bit address that a 0x2007 access presents to the PpuBus (20_memory.md R73). -/
def vramAddress (s : State) : PpuAddr := s.ppu.vaddr.value.setWidth 14

/-- Read 0x2002: the toggles are reset; under `VBLANK_POLICY = standard` vblank is cleared once the result is
formed (50_ppu.md R306, R328). -/
def readStatus (s : State) : Access Byte :=
  let status' := match s.cfg.vblank with
    | .off => s.ppu.status
    | .standard => { s.ppu.status with vblank := false }
  .ok s.ppu.status.pack
    (s.setPpu { s.ppu with
      status := status'
      scroll := s.ppu.scroll.resetToggle
      vaddr := s.ppu.vaddr.resetToggle })

/-- Read a write-only register, 0x2005 or 0x2006: a fault in strict mode; in permissive mode any byte, a free
value (R313, R315; notes/assumptions/9.md). -/
def readWriteOnly (addr : Word) (s : State) : Access Byte :=
  match s.cfg.regAccess with
  | .strict => .fault (.writeOnlyRegisterRead addr)
  | .permissive => .ok (Config.freeByte s.freeCount) { s with freeCount := s.freeCount + 1 }

/-- Read 0x2007: at 0x3F00 and above the palette byte at once; below, the byte latched before (R316). -/
def readData (s : State) : Access Byte :=
  (ppuRead (vramAddress s) s).andThen fun fresh s1 =>
    if 0x3F00 ≤ (vramAddress s).toNat then .ok fresh (advanceVaddr s1)
    else .ok s1.ppu.readBuf (advanceVaddr (s1.setPpu { s1.ppu with readBuf := fresh }))

/-- Write 0x2002: a fault in strict mode, nothing in permissive mode (R307). -/
def writeStatus (s : State) : Access Unit :=
  match s.cfg.regAccess with
  | .strict => .fault (.readOnlyRegisterWrite 0x2002#16)
  | .permissive => .ok () s

/-- Write 0x2004: `OAM[OAMADDR]`, and `OAMADDR` moved on only under `OAMDATA_WRITE_INCREMENT` (R310;
notes/assumptions/13.md). -/
def writeOamData (v : Byte) (s : State) : Access Unit :=
  (writeCell .oam s.ppu.oamAddr.toNat v s).andThen fun _ s1 =>
    .ok () (if s.cfg.oamDataIncrement then s1.setPpu { s1.ppu with oamAddr := s1.ppu.oamAddr + 1 } else s1)

/-- Write 0x2007: straight through, then the address moves on (R317). -/
def writeData (v : Byte) (s : State) : Access Unit :=
  (ppuWrite (vramAddress s) v s).andThen fun _ s1 => .ok () (advanceVaddr s1)

/-- The register at an address of the Ppu's interface; none outside the nine (R300, R301). -/
def PpuReg.ofAddr (addr : Word) : Option PpuReg :=
  if addr = 0x2000#16 then some .ctrl
  else if addr = 0x2001#16 then some .mask
  else if addr = 0x2002#16 then some .status
  else if addr = 0x2003#16 then some .oamAddr
  else if addr = 0x2004#16 then some .oamData
  else if addr = 0x2005#16 then some .scroll
  else if addr = 0x2006#16 then some .addr
  else if addr = 0x2007#16 then some .data
  else if addr = 0x4014#16 then some .oamDma
  else none

/-- `Ppu.readRegister` (R300, R301). -/
def readRegister (addr : Word) (s : State) : Access Byte :=
  match PpuReg.ofAddr addr with
  | none => .fault (.invalidPpuRegister addr)
  | some .ctrl => .ok s.ppu.ctrl.pack s
  | some .mask => .ok s.ppu.mask.pack s
  | some .status => readStatus s
  | some .oamAddr => .ok s.ppu.oamAddr s
  | some .oamData => readCell .oam s.ppu.oamAddr.toNat s
  | some .scroll => readWriteOnly addr s
  | some .addr => readWriteOnly addr s
  | some .data => readData s
  | some .oamDma => .ok s.ppu.oamDma s

/-- `Ppu.writeRegister`, which returns the byte written (R300, R301). -/
def writeRegister (addr : Word) (v : Byte) (s : State) : Access Byte :=
  let written (r : Access Unit) : Access Byte := r.andThen fun _ s1 => .ok v s1
  match PpuReg.ofAddr addr with
  | none => .fault (.invalidPpuRegister addr)
  | some .ctrl => .ok v (s.setPpu { s.ppu with ctrl := PpuCtrl.unpack v })
  | some .mask => .ok v (s.setPpu { s.ppu with mask := PpuMask.unpack v })
  | some .status => written (writeStatus s)
  | some .oamAddr => .ok v (s.setPpu { s.ppu with oamAddr := v })
  | some .oamData => written (writeOamData v s)
  | some .scroll => .ok v (s.setPpu { s.ppu with scroll := s.ppu.scroll.write v })
  | some .addr => .ok v (s.setPpu { s.ppu with vaddr := s.ppu.vaddr.write v })
  | some .data => written (writeData v s)
  | some .oamDma => .ok v (s.setPpu { s.ppu with oamDma := v })

/-- `cycle` after one PPU clock (R323). -/
def nextCycle (p : Ppu) : Nat := if 340 < p.cycle + 1 then 0 else p.cycle + 1

/-- `scanline` after one PPU clock (R323). -/
def nextScanline (p : Ppu) : Nat :=
  if 340 < p.cycle + 1 then (if 261 < p.scanline + 1 then 0 else p.scanline + 1) else p.scanline

/-- The status flags after one PPU clock: untouched, or under `standard` vblank set on leaving (241, 0) and all
three cleared on leaving (261, 0) (R328; notes/assumptions/12.md). -/
def nextStatus (policy : VblankPolicy) (p : Ppu) : PpuStatus :=
  match policy with
  | .off => p.status
  | .standard =>
    if p.scanline = 241 ∧ p.cycle = 0 then { p.status with vblank := true }
    else if p.scanline = 261 ∧ p.cycle = 0 then ⟨false, false, false⟩
    else p.status

/-- The framebuffer after the pixel of the current position: one cell on a visible scanline's cycles 0 to 255,
none elsewhere (R323, R324, R326, R327). -/
def renderPixel (s : State) : Framebuffer :=
  if s.ppu.scanline ≤ 239 ∧ s.ppu.cycle < 256 then
    s.fb.write (s.ppu.scanline * 256 + s.ppu.cycle) (Config.pixel s.ppu.scanline s.ppu.cycle s.ppu)
  else s.fb

/-- `Ppu.step()`: render at the current position, then advance (R323). -/
def ppuStep (s : State) : State :=
  { s with
    fb := renderPixel s
    ppu := { s.ppu with
      status := nextStatus s.cfg.vblank s.ppu
      scanline := nextScanline s.ppu
      cycle := nextCycle s.ppu } }

/-- `n` PPU clocks. -/
def ppuSteps : Nat → State → State
  | 0, s => s
  | n + 1, s => ppuSteps n (ppuStep s)

end Sys2Proof.Machine
end

