-- ==== Sys2Proof/Machine/Ops.lean ====
section
/-! DEFINITION. The named operations over the CPU's memory and registers: the CpuBus (20_memory.md R63 to R72),
`Fetch()`, the stack, the return from an interrupt, and raising a fault, the block's only exception
(40_cpu_common.md R131, R147 to R149; 60_exceptions.md R382, R383). -/

namespace Sys2Proof.Machine

/-- The decoder of the CpuBus, the same for reads and writes (R63 to R70). -/
def cpuTarget (addr : Word) : CpuTarget :=
  let n := addr.toNat
  if n < 0x2000 then .cell .wram (n % 0x800)
  else if n < 0x4000 then .ppuRegister (BitVec.ofNat 16 (0x2000 + (n - 0x2000) % 8))
  else if n = 0x4014 then .ppuRegister 0x4014#16
  else if n < 0x4020 then .cell .ioreg (n - 0x4000)
  else if n < 0x8000 then .cell .sram (n - 0x4020)
  else if n < 0xC000 then .cell .prg1 (n - 0x8000)
  else .cell .prg2 (n - 0xC000)

/-- A CpuBus read, `MemRead(addr, 1)` (R63). -/
def busRead (addr : Word) (s : State) : Access Byte :=
  match cpuTarget addr with
  | .cell r i => readCell r i s
  | .ppuRegister reg => readRegister reg s

/-- A write to a program bank, by `PRG_WRITE_POLICY` (R72). -/
def writeBank (addr : Word) (r : Region) (i : Nat) (v : Byte) (s : State) : Access Unit :=
  match s.cfg.prgWrite with
  | .store => writeCell r i v s
  | .ignore => .ok () s
  | .fault => .fault (.romWrite addr)

/-- A CpuBus write, `MemWrite(addr, 1, v)`; what a register write returns is discarded (R63, R65, R72). -/
def busWrite (addr : Word) (v : Byte) (s : State) : Access Unit :=
  match cpuTarget addr with
  | .cell .prg1 i => writeBank addr .prg1 i v s
  | .cell .prg2 i => writeBank addr .prg2 i v s
  | .cell r i => writeCell r i v s
  | .ppuRegister reg => (writeRegister reg v s).andThen fun _ s1 => .ok () s1

/-- The byte that a CPU address finds in a memory region, read without a bus access and so without side
effects; none for a Ppu register or a bank with no contents. This is the model's read of one byte for frames. -/
def peek (addr : Word) (s : State) : Option Byte :=
  match cpuTarget addr with
  | .cell r i => (s.memOf r).map fun m => m.read i
  | .ppuRegister _ => none

/-- The region and index that really hold the byte at a CPU address: both slots of a 16 KB image are one buffer
(R71). None for a Ppu register. Two addresses with the same cell are mirrors of one byte. -/
def cellAt (addr : Word) (s : State) : Option (Region × Nat) :=
  match cpuTarget addr with
  | .cell .prg2 i =>
    match s.prg with
    | .split _ _ => some (.prg2, i)
    | _ => some (.prg1, i)
  | .cell r i => some (r, i)
  | .ppuRegister _ => none

/-- A byte put into memory from outside the machine, not by a bus access; without effect on a Ppu register.
Before an image is loaded it makes one buffer seen in both slots (notes/assumptions/1.md). -/
def poke (addr : Word) (v : Byte) (s : State) : State :=
  match cpuTarget addr with
  | .cell r i => s.setMem r (((s.memOf r).getD []).write i v)
  | .ppuRegister _ => s

/-- `raise f`, taking the block's only exception: the run ends with the fault; nothing is saved, no vector is
read, control goes nowhere (60_exceptions.md R382; notes/assumptions/6.md). -/
def raise (f : Fault) : Result := .fault f

/-- End an instruction on an access: go on with its value and state, or raise its fault. -/
def Access.conclude {α : Type} (r : Access α) (k : α → State → Result) : Result :=
  match r with
  | .ok value s => k value s
  | .fault f => raise f

/-- `Fetch()`: the byte at `PC`, then `PC` moved on by one, modulo 65536 (40_cpu_common.md R131). -/
def fetch (s : State) : Access Byte :=
  (busRead s.pc s).andThen fun b s1 => .ok b (s1.setPc (s1.pc + 1))

/-- The address the stack pointer stands for, in page 1 (10_state.md R22). -/
def stackAddr (sp : Byte) : Word := wordOf 0x01#8 sp

/-- `Push(v)`: write, then decrement (40_cpu_common.md R147). -/
def push (v : Byte) (s : State) : Access Unit :=
  (busWrite (stackAddr s.sp) v s).andThen fun _ s1 => .ok () (s1.setSp (s1.sp - 1))

/-- `Pull()`: increment, then read (R148). -/
def pull (s : State) : Access Byte := busRead (stackAddr (s.sp + 1)) (s.setSp (s.sp + 1))

/-- `Push16(w)`: the high byte first (R149). -/
def push16 (w : Word) (s : State) : Access Unit :=
  (push (hiByte w) s).andThen fun _ s1 => push (loByte w) s1

/-- `Pull16()`: the low byte first (R149). -/
def pull16 (s : State) : Access Word :=
  (pull s).andThen fun lo s1 => (pull s1).andThen fun hi s2 => .ok (wordOf hi lo) s2

/-- Return from interrupt: pull the status, then `PC` (45_control.md R263, 60_exceptions.md R383). -/
def returnFromInterrupt (s : State) : Access Unit :=
  (pull s).andThen fun b s1 => (pull16 (unpackP b s1)).andThen fun target s2 => .ok () (s2.setPc target)

end Sys2Proof.Machine
end

