-- ==== Sys2Proof/Machine/Operands.lean ====
section
/-! DEFINITION. The addressing-mode layer (40_cpu_common.md R132 to R145, R154). The operand bytes are already in
the instruction; what is left to resolve is the arithmetic on them and the pointer reads. -/

namespace Sys2Proof.Machine

/-- A zero-page address (R135). -/
def zeroPage (z : Byte) : Word := z.setWidth 16

/-- An index register as a 16-bit value. -/
def extend (index : Byte) : Word := index.setWidth 16

/-- The 16-bit pointer whose low byte is at `lowAddr` and whose high byte is at `highAddr`, read in that order
(20_memory.md R78; R152). -/
def readPointer (lowAddr highAddr : Word) (s : State) : Access Word :=
  (busRead lowAddr s).andThen fun lo s1 =>
    (busRead highAddr s1).andThen fun hi s2 => .ok (wordOf hi lo) s2

/-- The pointer at a zero-page address; its high byte wraps within the zero page (R142, R143). -/
def readZeroPagePointer (z : Byte) (s : State) : Access Word :=
  readPointer (zeroPage z) (zeroPage (z + 1)) s

/-- `Resolve` for the eight memory formats (R135 to R140, R142, R143). -/
def resolve (m : MemMode) (s : State) : Access Word :=
  match m with
  | .zp z => .ok (zeroPage z) s
  | .zpx z => .ok (zeroPage (z + s.x)) s
  | .zpy z => .ok (zeroPage (z + s.y)) s
  | .abs addr => .ok addr s
  | .abx addr => .ok (addr + extend s.x) s
  | .aby addr => .ok (addr + extend s.y) s
  | .izx z => readZeroPagePointer (z + s.x) s
  | .izy z => (readZeroPagePointer z s).andThen fun base s1 => .ok (base + extend s1.y) s1

/-- The address of an indirect pointer's high byte: it stays in the pointer's page (R141). -/
def pointerHighAddr (ptr : Word) : Word := wordOf (hiByte ptr) (loByte ptr + 1)

/-- `Resolve(IND)`, page-wrap bug included (R141). -/
def resolveIndirect (ptr : Word) (s : State) : Access Word :=
  readPointer ptr (pointerHighAddr ptr) s

/-- `Load(operand)` (R145). -/
def load (src : Src) (s : State) : Access Byte :=
  match src with
  | .imm v => .ok v s
  | .mem m => (resolve m s).andThen busRead

/-- `Store(operand, v)` for a memory operand (R145): one write, no read of the target. -/
def store (m : MemMode) (v : Byte) (s : State) : Access Unit :=
  (resolve m s).andThen fun addr s1 => busWrite addr v s1

/-- `Modify(operand, f)`: one read, one write of the same place; answers the new byte and the carry out that
`f` gave (R154). On `acc` the place is `A` (R133). -/
def modify (dst : Dst) (f : Byte → Byte × Bool) (s : State) : Access (Byte × Bool) :=
  match dst with
  | .acc => .ok (f s.a) (s.setA (f s.a).1)
  | .mem m =>
    (resolve m s).andThen fun addr s1 =>
      (busRead addr s1).andThen fun old s2 =>
        (busWrite addr (f old).1 s2).andThen fun _ s3 => .ok (f old) s3

end Sys2Proof.Machine
end

