-- ==== Sys2Proof/Machine/ArithLogic.lean ====
section
/-! DEFINITION. Arithmetic, logic, compare, increment and decrement (42_arith_logic.md). Each operation is written
once, as its rule gives it; each row of the opcode table has a definition of its own over it. The state an `exec`
definition gets has the instruction's bytes fetched and `PC` past them (notes/assumptions/5.md). -/

namespace Sys2Proof.Machine

/-- An operation on the operand's byte that only changes registers and flags (R190 to R198). -/
def onOperand (f : Byte → State → State) (src : Src) (s : State) : Result :=
  (load src s).conclude fun m s1 => .next (f m s1)

/-- A bitwise operation with `A`, `SetZN` on the result (R192 to R194). -/
def bitwise (f : Byte → Byte → Byte) (m : Byte) (s : State) : State := setZN (f s.a m) (s.setA (f s.a m))

/-- `BIT`: `Z` from `A & m`, `N` and `V` from bits 7 and 6 of `m` (R195). -/
def bitTest (m : Byte) (s : State) : State :=
  s.setP { s.p with z := decide (s.a &&& m = 0#8), n := m.getLsbD 7, v := m.getLsbD 6 }

/-- `INC` and `DEC`: the byte of memory modified, `SetZN` on it; no carry (R199, R200). -/
def stepMemory (f : Byte → Byte) (m : MemMode) (s : State) : Result :=
  (modify (.mem m) (fun v => (f v, false)) s).conclude fun r s1 => .next (setZN r.1 s1)

/-- `ADC`: `AddWithCarry(m)` (R190). -/
def opAdc (src : Src) (s : State) : Result :=
  onOperand addWithCarry src s

/-- 61: R190, R142. -/
def execAdcIzx (zp : Byte) (s : State) : Result := opAdc (.mem (.izx zp)) s
/-- 65: R190, R135. -/
def execAdcZp (zp : Byte) (s : State) : Result := opAdc (.mem (.zp zp)) s
/-- 69: R190, R134. -/
def execAdcImm (v : Byte) (s : State) : Result := opAdc (.imm v) s
/-- 6D: R190, R138. -/
def execAdcAbs (addr : Word) (s : State) : Result := opAdc (.mem (.abs addr)) s
/-- 71: R190, R143. -/
def execAdcIzy (zp : Byte) (s : State) : Result := opAdc (.mem (.izy zp)) s
/-- 75: R190, R136. -/
def execAdcZpx (zp : Byte) (s : State) : Result := opAdc (.mem (.zpx zp)) s
/-- 79: R190, R140. -/
def execAdcAby (addr : Word) (s : State) : Result := opAdc (.mem (.aby addr)) s
/-- 7D: R190, R139. -/
def execAdcAbx (addr : Word) (s : State) : Result := opAdc (.mem (.abx addr)) s

/-- `SBC`: `AddWithCarry(m ^ 0xFF)` (R191, R291). -/
def opSbc (src : Src) (s : State) : Result :=
  onOperand (fun m s1 => addWithCarry (m ^^^ 0xFF#8) s1) src s

/-- E1: R191, R142. -/
def execSbcIzx (zp : Byte) (s : State) : Result := opSbc (.mem (.izx zp)) s
/-- E5: R191, R135. -/
def execSbcZp (zp : Byte) (s : State) : Result := opSbc (.mem (.zp zp)) s
/-- E9: R191, R134. -/
def execSbcImm (v : Byte) (s : State) : Result := opSbc (.imm v) s
/-- EB: R291, R134. -/
def execSbcImmEB (v : Byte) (s : State) : Result := opSbc (.imm v) s
/-- ED: R191, R138. -/
def execSbcAbs (addr : Word) (s : State) : Result := opSbc (.mem (.abs addr)) s
/-- F1: R191, R143. -/
def execSbcIzy (zp : Byte) (s : State) : Result := opSbc (.mem (.izy zp)) s
/-- F5: R191, R136. -/
def execSbcZpx (zp : Byte) (s : State) : Result := opSbc (.mem (.zpx zp)) s
/-- F9: R191, R140. -/
def execSbcAby (addr : Word) (s : State) : Result := opSbc (.mem (.aby addr)) s
/-- FD: R191, R139. -/
def execSbcAbx (addr : Word) (s : State) : Result := opSbc (.mem (.abx addr)) s

/-- `AND` (R192). -/
def opAnd (src : Src) (s : State) : Result :=
  onOperand (bitwise fun a m => a &&& m) src s

/-- 21: R192, R142. -/
def execAndIzx (zp : Byte) (s : State) : Result := opAnd (.mem (.izx zp)) s
/-- 25: R192, R135. -/
def execAndZp (zp : Byte) (s : State) : Result := opAnd (.mem (.zp zp)) s
/-- 29: R192, R134. -/
def execAndImm (v : Byte) (s : State) : Result := opAnd (.imm v) s
/-- 2D: R192, R138. -/
def execAndAbs (addr : Word) (s : State) : Result := opAnd (.mem (.abs addr)) s
/-- 31: R192, R143. -/
def execAndIzy (zp : Byte) (s : State) : Result := opAnd (.mem (.izy zp)) s
/-- 35: R192, R136. -/
def execAndZpx (zp : Byte) (s : State) : Result := opAnd (.mem (.zpx zp)) s
/-- 39: R192, R140. -/
def execAndAby (addr : Word) (s : State) : Result := opAnd (.mem (.aby addr)) s
/-- 3D: R192, R139. -/
def execAndAbx (addr : Word) (s : State) : Result := opAnd (.mem (.abx addr)) s

/-- `ORA` (R193). -/
def opOra (src : Src) (s : State) : Result :=
  onOperand (bitwise fun a m => a ||| m) src s

/-- 01: R193, R142. -/
def execOraIzx (zp : Byte) (s : State) : Result := opOra (.mem (.izx zp)) s
/-- 05: R193, R135. -/
def execOraZp (zp : Byte) (s : State) : Result := opOra (.mem (.zp zp)) s
/-- 09: R193, R134. -/
def execOraImm (v : Byte) (s : State) : Result := opOra (.imm v) s
/-- 0D: R193, R138. -/
def execOraAbs (addr : Word) (s : State) : Result := opOra (.mem (.abs addr)) s
/-- 11: R193, R143. -/
def execOraIzy (zp : Byte) (s : State) : Result := opOra (.mem (.izy zp)) s
/-- 15: R193, R136. -/
def execOraZpx (zp : Byte) (s : State) : Result := opOra (.mem (.zpx zp)) s
/-- 19: R193, R140. -/
def execOraAby (addr : Word) (s : State) : Result := opOra (.mem (.aby addr)) s
/-- 1D: R193, R139. -/
def execOraAbx (addr : Word) (s : State) : Result := opOra (.mem (.abx addr)) s

/-- `EOR` (R194). -/
def opEor (src : Src) (s : State) : Result :=
  onOperand (bitwise fun a m => a ^^^ m) src s

/-- 41: R194, R142. -/
def execEorIzx (zp : Byte) (s : State) : Result := opEor (.mem (.izx zp)) s
/-- 45: R194, R135. -/
def execEorZp (zp : Byte) (s : State) : Result := opEor (.mem (.zp zp)) s
/-- 49: R194, R134. -/
def execEorImm (v : Byte) (s : State) : Result := opEor (.imm v) s
/-- 4D: R194, R138. -/
def execEorAbs (addr : Word) (s : State) : Result := opEor (.mem (.abs addr)) s
/-- 51: R194, R143. -/
def execEorIzy (zp : Byte) (s : State) : Result := opEor (.mem (.izy zp)) s
/-- 55: R194, R136. -/
def execEorZpx (zp : Byte) (s : State) : Result := opEor (.mem (.zpx zp)) s
/-- 59: R194, R140. -/
def execEorAby (addr : Word) (s : State) : Result := opEor (.mem (.aby addr)) s
/-- 5D: R194, R139. -/
def execEorAbx (addr : Word) (s : State) : Result := opEor (.mem (.abx addr)) s

/-- `BIT` (R195). -/
def opBit (m : MemMode) (s : State) : Result :=
  onOperand bitTest (.mem m) s

/-- 24: R195, R135. -/
def execBitZp (zp : Byte) (s : State) : Result := opBit (.zp zp) s
/-- 2C: R195, R138. -/
def execBitAbs (addr : Word) (s : State) : Result := opBit (.abs addr) s

/-- `CMP`: `Compare(A, m)` (R196). -/
def opCmp (src : Src) (s : State) : Result :=
  onOperand (fun m s1 => compareWith s1.a m s1) src s

/-- C1: R196, R142. -/
def execCmpIzx (zp : Byte) (s : State) : Result := opCmp (.mem (.izx zp)) s
/-- C5: R196, R135. -/
def execCmpZp (zp : Byte) (s : State) : Result := opCmp (.mem (.zp zp)) s
/-- C9: R196, R134. -/
def execCmpImm (v : Byte) (s : State) : Result := opCmp (.imm v) s
/-- CD: R196, R138. -/
def execCmpAbs (addr : Word) (s : State) : Result := opCmp (.mem (.abs addr)) s
/-- D1: R196, R143. -/
def execCmpIzy (zp : Byte) (s : State) : Result := opCmp (.mem (.izy zp)) s
/-- D5: R196, R136. -/
def execCmpZpx (zp : Byte) (s : State) : Result := opCmp (.mem (.zpx zp)) s
/-- D9: R196, R140. -/
def execCmpAby (addr : Word) (s : State) : Result := opCmp (.mem (.aby addr)) s
/-- DD: R196, R139. -/
def execCmpAbx (addr : Word) (s : State) : Result := opCmp (.mem (.abx addr)) s

/-- `CPX`: `Compare(X, m)` (R197). -/
def opCpx (src : Src) (s : State) : Result :=
  onOperand (fun m s1 => compareWith s1.x m s1) src s

/-- E0: R197, R134. -/
def execCpxImm (v : Byte) (s : State) : Result := opCpx (.imm v) s
/-- E4: R197, R135. -/
def execCpxZp (zp : Byte) (s : State) : Result := opCpx (.mem (.zp zp)) s
/-- EC: R197, R138. -/
def execCpxAbs (addr : Word) (s : State) : Result := opCpx (.mem (.abs addr)) s

/-- `CPY`: `Compare(Y, m)` (R198). -/
def opCpy (src : Src) (s : State) : Result :=
  onOperand (fun m s1 => compareWith s1.y m s1) src s

/-- C0: R198, R134. -/
def execCpyImm (v : Byte) (s : State) : Result := opCpy (.imm v) s
/-- C4: R198, R135. -/
def execCpyZp (zp : Byte) (s : State) : Result := opCpy (.mem (.zp zp)) s
/-- CC: R198, R138. -/
def execCpyAbs (addr : Word) (s : State) : Result := opCpy (.mem (.abs addr)) s

/-- `INC` of a memory byte (R199). -/
def opInc (m : MemMode) (s : State) : Result :=
  stepMemory (fun v => v + 1) m s

/-- E6: R199, R135. -/
def execIncZp (zp : Byte) (s : State) : Result := opInc (.zp zp) s
/-- EE: R199, R138. -/
def execIncAbs (addr : Word) (s : State) : Result := opInc (.abs addr) s
/-- F6: R199, R136. -/
def execIncZpx (zp : Byte) (s : State) : Result := opInc (.zpx zp) s
/-- FE: R199, R139. -/
def execIncAbx (addr : Word) (s : State) : Result := opInc (.abx addr) s

/-- `DEC` of a memory byte (R200). -/
def opDec (m : MemMode) (s : State) : Result :=
  stepMemory (fun v => v - 1) m s

/-- C6: R200, R135. -/
def execDecZp (zp : Byte) (s : State) : Result := opDec (.zp zp) s
/-- CE: R200, R138. -/
def execDecAbs (addr : Word) (s : State) : Result := opDec (.abs addr) s
/-- D6: R200, R136. -/
def execDecZpx (zp : Byte) (s : State) : Result := opDec (.zpx zp) s
/-- DE: R200, R139. -/
def execDecAbx (addr : Word) (s : State) : Result := opDec (.abx addr) s

/-- `INX`: `X <- (X + 1) mod 256; SetZN(X)` (R201). -/
def opInx (s : State) : Result :=
  .next (setZN (s.x + 1) (s.setX (s.x + 1)))

/-- E8: R201, R132. -/
def execInx (s : State) : Result := opInx s

/-- `INY`: `Y <- (Y + 1) mod 256; SetZN(Y)` (R202). -/
def opIny (s : State) : Result :=
  .next (setZN (s.y + 1) (s.setY (s.y + 1)))

/-- C8: R202, R132. -/
def execIny (s : State) : Result := opIny s

/-- `DEX`: `X <- (X - 1) mod 256; SetZN(X)` (R203). -/
def opDex (s : State) : Result :=
  .next (setZN (s.x - 1) (s.setX (s.x - 1)))

/-- CA: R203, R132. -/
def execDex (s : State) : Result := opDex s

/-- `DEY`: `Y <- (Y - 1) mod 256; SetZN(Y)` (R204). -/
def opDey (s : State) : Result :=
  .next (setZN (s.y - 1) (s.setY (s.y - 1)))

/-- 88: R204, R132. -/
def execDey (s : State) : Result := opDey s

end Sys2Proof.Machine
end

