-- ==== Sys2Proof/Machine/Control.lean ====
section
/-! DEFINITION. Branches, jumps, subroutines, return from interrupt, halt (45_control.md). Each operation is written
once, as its rule gives it; each row of the opcode table has a definition of its own over it. The state an `exec`
definition gets has the instruction's bytes fetched and `PC` past them (notes/assumptions/5.md). -/

namespace Sys2Proof.Machine

/-- `Branch(cond, rel(d))`: the offset is added to the `PC` past the branch when the operation's condition holds
(R258). -/
def branch (op : Operation) (d : Int) (s : State) : Result :=
  .next (if branchTaken op s.p then s.setPc (s.pc + BitVec.ofInt 16 d) else s)

/-- `BPL`: branch if `P.N = 0` (R250). -/
def opBpl (d : Int) (s : State) : Result :=
  branch .bpl d s

/-- 10: R250, R144. -/
def execBpl (d : Int) (s : State) : Result := opBpl d s

/-- `BMI`: branch if `P.N = 1` (R251). -/
def opBmi (d : Int) (s : State) : Result :=
  branch .bmi d s

/-- 30: R251, R144. -/
def execBmi (d : Int) (s : State) : Result := opBmi d s

/-- `BVC`: branch if `P.V = 0` (R252). -/
def opBvc (d : Int) (s : State) : Result :=
  branch .bvc d s

/-- 50: R252, R144. -/
def execBvc (d : Int) (s : State) : Result := opBvc d s

/-- `BVS`: branch if `P.V = 1` (R253). -/
def opBvs (d : Int) (s : State) : Result :=
  branch .bvs d s

/-- 70: R253, R144. -/
def execBvs (d : Int) (s : State) : Result := opBvs d s

/-- `BCC`: branch if `P.C = 0` (R254). -/
def opBcc (d : Int) (s : State) : Result :=
  branch .bcc d s

/-- 90: R254, R144. -/
def execBcc (d : Int) (s : State) : Result := opBcc d s

/-- `BCS`: branch if `P.C = 1` (R255). -/
def opBcs (d : Int) (s : State) : Result :=
  branch .bcs d s

/-- B0: R255, R144. -/
def execBcs (d : Int) (s : State) : Result := opBcs d s

/-- `BNE`: branch if `P.Z = 0` (R256). -/
def opBne (d : Int) (s : State) : Result :=
  branch .bne d s

/-- D0: R256, R144. -/
def execBne (d : Int) (s : State) : Result := opBne d s

/-- `BEQ`: branch if `P.Z = 1` (R257). -/
def opBeq (d : Int) (s : State) : Result :=
  branch .beq d s

/-- F0: R257, R144. -/
def execBeq (d : Int) (s : State) : Result := opBeq d s

/-- `JMP` absolute (R259). -/
def opJmp (addr : Word) (s : State) : Result :=
  .next (s.setPc addr)

/-- `JMP` indirect, through the pointer read with its page-wrap bug (R260, R141). -/
def opJmpIndirect (ptr : Word) (s : State) : Result :=
  (resolveIndirect ptr s).conclude fun target s1 => .next (s1.setPc target)

/-- 4C: R259, R138. -/
def execJmpAbs (addr : Word) (s : State) : Result := opJmp addr s
/-- 6C: R260, R141. -/
def execJmpInd (ptr : Word) (s : State) : Result := opJmpIndirect ptr s

/-- `JSR`: push the address of its own last byte, jump (R261). -/
def opJsr (addr : Word) (s : State) : Result :=
  (push16 (s.pc - 1) s).conclude fun _ s1 => .next (s1.setPc addr)

/-- 20: R261, R138. -/
def execJsr (addr : Word) (s : State) : Result := opJsr addr s

/-- `RTS`: pull an address, add one (R262). -/
def opRts (s : State) : Result :=
  (pull16 s).conclude fun w s1 => .next (s1.setPc (w + 1))

/-- 60: R262, R132. -/
def execRts (s : State) : Result := opRts s

/-- `RTI`: the status, then `PC`, no `+ 1` (R263). -/
def opRti (s : State) : Result :=
  (returnFromInterrupt s).conclude fun _ s1 => .next s1

/-- 40: R263, R132. -/
def execRti (s : State) : Result := opRti s

/-- `HLT`: the run ends in halt, nothing else changes (R264, R108; notes/assumptions/4.md). -/
def opHlt (s : State) : Result :=
  .next { s with run := .halted }

/-- 00: R264, R132. -/
def execHlt (s : State) : Result := opHlt s

end Sys2Proof.Machine
end

