-- ==== Sys2Proof/Machine/FlagStack.lean ====
section
/-! DEFINITION. Flag, stack and no-operation instructions (44_flag_stack.md). Each operation is written once, as its
rule gives it; each row of the opcode table has a definition of its own over it. The state an `exec` definition gets
has the instruction's bytes fetched and `PC` past them (notes/assumptions/5.md). -/

namespace Sys2Proof.Machine

/-- `CLC`: `P.C <- 0` (R230). -/
def opClc (s : State) : Result :=
  .next (s.setP { s.p with c := false })

/-- 18: R230, R132. -/
def execClc (s : State) : Result := opClc s

/-- `SEC`: `P.C <- 1` (R231). -/
def opSec (s : State) : Result :=
  .next (s.setP { s.p with c := true })

/-- 38: R231, R132. -/
def execSec (s : State) : Result := opSec s

/-- `CLI`: `P.I <- 0` (R232). -/
def opCli (s : State) : Result :=
  .next (s.setP { s.p with i := false })

/-- 58: R232, R132. -/
def execCli (s : State) : Result := opCli s

/-- `SEI`: `P.I <- 1` (R233). -/
def opSei (s : State) : Result :=
  .next (s.setP { s.p with i := true })

/-- 78: R233, R132. -/
def execSei (s : State) : Result := opSei s

/-- `CLV`: `P.V <- 0` (R234). -/
def opClv (s : State) : Result :=
  .next (s.setP { s.p with v := false })

/-- B8: R234, R132. -/
def execClv (s : State) : Result := opClv s

/-- `CLD`: `P.D <- 0` (R235). -/
def opCld (s : State) : Result :=
  .next (s.setP { s.p with d := false })

/-- D8: R235, R132. -/
def execCld (s : State) : Result := opCld s

/-- `SED`: `P.D <- 1` (R236). -/
def opSed (s : State) : Result :=
  .next (s.setP { s.p with d := true })

/-- F8: R236, R132. -/
def execSed (s : State) : Result := opSed s

/-- `PHA`: `Push(A)` (R237). -/
def opPha (s : State) : Result :=
  (push s.a s).conclude fun _ s1 => .next s1

/-- 48: R237, R132. -/
def execPha (s : State) : Result := opPha s

/-- `PLA`: `A <- Pull(); SetZN(A)` (R238). -/
def opPla (s : State) : Result :=
  (pull s).conclude fun v s1 => .next (setZN v (s1.setA v))

/-- 68: R238, R132. -/
def execPla (s : State) : Result := opPla s

/-- `PHP`: `Push(PackP() | 0x10)`; the flags stay (R239). -/
def opPhp (s : State) : Result :=
  (push (s.p.pack ||| 0x10#8) s).conclude fun _ s1 => .next s1

/-- 08: R239, R132. -/
def execPhp (s : State) : Result := opPhp s

/-- `PLP`: `UnpackP(Pull())` (R240). -/
def opPlp (s : State) : Result :=
  (pull s).conclude fun b s1 => .next (unpackP b s1)

/-- 28: R240, R132. -/
def execPlp (s : State) : Result := opPlp s

/-- `NOP`: nothing (R241, R290). -/
def opNop (s : State) : Result :=
  .next s

/-- 1A: R290, R132. -/
def execNop1A (s : State) : Result := opNop s
/-- 3A: R290, R132. -/
def execNop3A (s : State) : Result := opNop s
/-- 5A: R290, R132. -/
def execNop5A (s : State) : Result := opNop s
/-- 7A: R290, R132. -/
def execNop7A (s : State) : Result := opNop s
/-- DA: R290, R132. -/
def execNopDA (s : State) : Result := opNop s
/-- EA: R241, R132. -/
def execNop (s : State) : Result := opNop s
/-- FA: R290, R132. -/
def execNopFA (s : State) : Result := opNop s

end Sys2Proof.Machine
end

