-- ==== Sys2Proof/Machine/LoadStore.lean ====
section
/-! DEFINITION. Load, store and transfer instructions (41_load_store_transfer.md). Each operation is written once, as
its rule gives it; each row of the opcode table has a definition of its own over it. The state an `exec` definition
gets has the instruction's bytes fetched and `PC` past them (notes/assumptions/5.md). -/

namespace Sys2Proof.Machine

/-- A load: the byte of the operand to one place, `SetZN` on it (R170 to R172). -/
def loadInto (put : Byte → State → State) (src : Src) (s : State) : Result :=
  (load src s).conclude fun v s1 => .next (setZN v (put v s1))

/-- A store of a register's byte; no flag is written (R173 to R175). -/
def storeFrom (v : Byte) (m : MemMode) (s : State) : Result :=
  (store m v s).conclude fun _ s1 => .next s1

/-- A transfer: a register's byte to one place, `SetZN` on it (R176 to R180). -/
def transfer (v : Byte) (put : Byte → State → State) (s : State) : Result := .next (setZN v (put v s))

/-- `LDA`: `A <- v; SetZN(v)` (R170). -/
def opLda (src : Src) (s : State) : Result :=
  loadInto State.setA src s

/-- A1: R170, R142. -/
def execLdaIzx (zp : Byte) (s : State) : Result := opLda (.mem (.izx zp)) s
/-- A5: R170, R135. -/
def execLdaZp (zp : Byte) (s : State) : Result := opLda (.mem (.zp zp)) s
/-- A9: R170, R134. -/
def execLdaImm (v : Byte) (s : State) : Result := opLda (.imm v) s
/-- AD: R170, R138. -/
def execLdaAbs (addr : Word) (s : State) : Result := opLda (.mem (.abs addr)) s
/-- B1: R170, R143. -/
def execLdaIzy (zp : Byte) (s : State) : Result := opLda (.mem (.izy zp)) s
/-- B5: R170, R136. -/
def execLdaZpx (zp : Byte) (s : State) : Result := opLda (.mem (.zpx zp)) s
/-- B9: R170, R140. -/
def execLdaAby (addr : Word) (s : State) : Result := opLda (.mem (.aby addr)) s
/-- BD: R170, R139. -/
def execLdaAbx (addr : Word) (s : State) : Result := opLda (.mem (.abx addr)) s

/-- `LDX`: `X <- v; SetZN(v)` (R171). -/
def opLdx (src : Src) (s : State) : Result :=
  loadInto State.setX src s

/-- A2: R171, R134. -/
def execLdxImm (v : Byte) (s : State) : Result := opLdx (.imm v) s
/-- A6: R171, R135. -/
def execLdxZp (zp : Byte) (s : State) : Result := opLdx (.mem (.zp zp)) s
/-- AE: R171, R138. -/
def execLdxAbs (addr : Word) (s : State) : Result := opLdx (.mem (.abs addr)) s
/-- B6: R171, R137. -/
def execLdxZpy (zp : Byte) (s : State) : Result := opLdx (.mem (.zpy zp)) s
/-- BE: R171, R140. -/
def execLdxAby (addr : Word) (s : State) : Result := opLdx (.mem (.aby addr)) s

/-- `LDY`: `Y <- v; SetZN(v)` (R172). -/
def opLdy (src : Src) (s : State) : Result :=
  loadInto State.setY src s

/-- A0: R172, R134. -/
def execLdyImm (v : Byte) (s : State) : Result := opLdy (.imm v) s
/-- A4: R172, R135. -/
def execLdyZp (zp : Byte) (s : State) : Result := opLdy (.mem (.zp zp)) s
/-- AC: R172, R138. -/
def execLdyAbs (addr : Word) (s : State) : Result := opLdy (.mem (.abs addr)) s
/-- B4: R172, R136. -/
def execLdyZpx (zp : Byte) (s : State) : Result := opLdy (.mem (.zpx zp)) s
/-- BC: R172, R139. -/
def execLdyAbx (addr : Word) (s : State) : Result := opLdy (.mem (.abx addr)) s

/-- `STA`: `Store(operand, A)` (R173). -/
def opSta (m : MemMode) (s : State) : Result :=
  storeFrom s.a m s

/-- 81: R173, R142. -/
def execStaIzx (zp : Byte) (s : State) : Result := opSta (.izx zp) s
/-- 85: R173, R135. -/
def execStaZp (zp : Byte) (s : State) : Result := opSta (.zp zp) s
/-- 8D: R173, R138. -/
def execStaAbs (addr : Word) (s : State) : Result := opSta (.abs addr) s
/-- 91: R173, R143. -/
def execStaIzy (zp : Byte) (s : State) : Result := opSta (.izy zp) s
/-- 95: R173, R136. -/
def execStaZpx (zp : Byte) (s : State) : Result := opSta (.zpx zp) s
/-- 99: R173, R140. -/
def execStaAby (addr : Word) (s : State) : Result := opSta (.aby addr) s
/-- 9D: R173, R139. -/
def execStaAbx (addr : Word) (s : State) : Result := opSta (.abx addr) s

/-- `STX`: `Store(operand, X)` (R174). -/
def opStx (m : MemMode) (s : State) : Result :=
  storeFrom s.x m s

/-- 86: R174, R135. -/
def execStxZp (zp : Byte) (s : State) : Result := opStx (.zp zp) s
/-- 8E: R174, R138. -/
def execStxAbs (addr : Word) (s : State) : Result := opStx (.abs addr) s
/-- 96: R174, R137. -/
def execStxZpy (zp : Byte) (s : State) : Result := opStx (.zpy zp) s

/-- `STY`: `Store(operand, Y)` (R175). -/
def opSty (m : MemMode) (s : State) : Result :=
  storeFrom s.y m s

/-- 84: R175, R135. -/
def execStyZp (zp : Byte) (s : State) : Result := opSty (.zp zp) s
/-- 8C: R175, R138. -/
def execStyAbs (addr : Word) (s : State) : Result := opSty (.abs addr) s
/-- 94: R175, R136. -/
def execStyZpx (zp : Byte) (s : State) : Result := opSty (.zpx zp) s

/-- `TAX`: `X <- A; SetZN(X)` (R176). -/
def opTax (s : State) : Result :=
  transfer s.a State.setX s

/-- AA: R176, R132. -/
def execTax (s : State) : Result := opTax s

/-- `TXA`: `A <- X; SetZN(A)` (R177). -/
def opTxa (s : State) : Result :=
  transfer s.x State.setA s

/-- 8A: R177, R132. -/
def execTxa (s : State) : Result := opTxa s

/-- `TAY`: `Y <- A; SetZN(Y)` (R178). -/
def opTay (s : State) : Result :=
  transfer s.a State.setY s

/-- A8: R178, R132. -/
def execTay (s : State) : Result := opTay s

/-- `TYA`: `A <- Y; SetZN(A)` (R179). -/
def opTya (s : State) : Result :=
  transfer s.y State.setA s

/-- 98: R179, R132. -/
def execTya (s : State) : Result := opTya s

/-- `TSX`: `X <- SP; SetZN(X)` (R180). -/
def opTsx (s : State) : Result :=
  transfer s.sp State.setX s

/-- BA: R180, R132. -/
def execTsx (s : State) : Result := opTsx s

/-- `TXS`: `SP <- X`; no flag (R181; 90_conflicts.md C4). -/
def opTxs (s : State) : Result :=
  .next (s.setSp s.x)

/-- 9A: R181, R132. -/
def execTxs (s : State) : Result := opTxs s

end Sys2Proof.Machine
end

