-- ==== Sys2Proof/Machine/ShiftRotate.lean ====
section
/-! DEFINITION. Shift and rotate (43_shift_rotate.md). Each operation is written once, as its rule gives it; each row
of the opcode table has a definition of its own over it. The state an `exec` definition gets has the instruction's
bytes fetched and `PC` past them (notes/assumptions/5.md). -/

namespace Sys2Proof.Machine

/-- A shift or rotate of `A` or of a memory byte: `P.C` the carry out, `SetZN` on the new byte (R220 to R224). -/
def shiftWith (f : Byte → Byte × Bool) (dst : Dst) (s : State) : Result :=
  (modify dst f s).conclude fun r s1 => .next (setZN r.1 (setC r.2 s1))

/-- `ASL` (R220). -/
def opAsl (dst : Dst) (s : State) : Result :=
  shiftWith asl dst s

/-- 06: R220, R135. -/
def execAslZp (zp : Byte) (s : State) : Result := opAsl (.mem (.zp zp)) s
/-- 0A: R220, R133. -/
def execAslAcc (s : State) : Result := opAsl .acc s
/-- 0E: R220, R138. -/
def execAslAbs (addr : Word) (s : State) : Result := opAsl (.mem (.abs addr)) s
/-- 16: R220, R136. -/
def execAslZpx (zp : Byte) (s : State) : Result := opAsl (.mem (.zpx zp)) s
/-- 1E: R220, R139. -/
def execAslAbx (addr : Word) (s : State) : Result := opAsl (.mem (.abx addr)) s

/-- `LSR` (R221). -/
def opLsr (dst : Dst) (s : State) : Result :=
  shiftWith lsr dst s

/-- 46: R221, R135. -/
def execLsrZp (zp : Byte) (s : State) : Result := opLsr (.mem (.zp zp)) s
/-- 4A: R221, R133. -/
def execLsrAcc (s : State) : Result := opLsr .acc s
/-- 4E: R221, R138. -/
def execLsrAbs (addr : Word) (s : State) : Result := opLsr (.mem (.abs addr)) s
/-- 56: R221, R136. -/
def execLsrZpx (zp : Byte) (s : State) : Result := opLsr (.mem (.zpx zp)) s
/-- 5E: R221, R139. -/
def execLsrAbx (addr : Word) (s : State) : Result := opLsr (.mem (.abx addr)) s

/-- `ROL` (R222). -/
def opRol (dst : Dst) (s : State) : Result :=
  shiftWith (rol s.p.c) dst s

/-- 26: R222, R135. -/
def execRolZp (zp : Byte) (s : State) : Result := opRol (.mem (.zp zp)) s
/-- 2A: R222, R133. -/
def execRolAcc (s : State) : Result := opRol .acc s
/-- 2E: R222, R138. -/
def execRolAbs (addr : Word) (s : State) : Result := opRol (.mem (.abs addr)) s
/-- 36: R222, R136. -/
def execRolZpx (zp : Byte) (s : State) : Result := opRol (.mem (.zpx zp)) s
/-- 3E: R222, R139. -/
def execRolAbx (addr : Word) (s : State) : Result := opRol (.mem (.abx addr)) s

/-- `ROR` (R223). -/
def opRor (dst : Dst) (s : State) : Result :=
  shiftWith (ror s.p.c) dst s

/-- 66: R223, R135. -/
def execRorZp (zp : Byte) (s : State) : Result := opRor (.mem (.zp zp)) s
/-- 6A: R223, R133. -/
def execRorAcc (s : State) : Result := opRor .acc s
/-- 6E: R223, R138. -/
def execRorAbs (addr : Word) (s : State) : Result := opRor (.mem (.abs addr)) s
/-- 76: R223, R136. -/
def execRorZpx (zp : Byte) (s : State) : Result := opRor (.mem (.zpx zp)) s
/-- 7E: R223, R139. -/
def execRorAbx (addr : Word) (s : State) : Result := opRor (.mem (.abx addr)) s

end Sys2Proof.Machine
end

