-- ==== Sys2Proof/Machine/Undocumented.lean ====
section
/-! DEFINITION. The undocumented instructions (46_undocumented.md); the SBC alias is in Machine/ArithLogic.lean and
the six NOPs in Machine/FlagStack.lean, beside the operations they repeat. Each operation is written once, as its rule
gives it; each row of the opcode table has a definition of its own over it. The state an `exec` definition gets has
the instruction's bytes fetched and `PC` past them (notes/assumptions/5.md). -/

namespace Sys2Proof.Machine

/-- One read and one write of a memory byte by `f`, then `g` on the carry out and the **modified** byte (R282 to
R287). -/
def modifyThen (f : Byte → Byte × Bool) (g : Byte → Bool → State → State) (m : MemMode) (s : State) : Result :=
  (modify (.mem m) f s).conclude fun r s1 => .next (g r.1 r.2 s1)

/-- `A` combined with the modified byte, `P.C` the carry out, `SetZN` on `A` (R282 to R284). -/
def combineWithA (f : Byte → Byte → Byte) (r : Byte) (c : Bool) (s : State) : State :=
  setZN (f s.a r) ((setC c s).setA (f s.a r))

/-- `LAX`: `A <- v; X <- v; SetZN(v)` (R280). -/
def opLax (m : MemMode) (s : State) : Result :=
  (load (.mem m) s).conclude fun v s1 => .next (setZN v ((s1.setA v).setX v))

/-- A3: R280, R142. -/
def execLaxIzx (zp : Byte) (s : State) : Result := opLax (.izx zp) s
/-- A7: R280, R135. -/
def execLaxZp (zp : Byte) (s : State) : Result := opLax (.zp zp) s
/-- AF: R280, R138. -/
def execLaxAbs (addr : Word) (s : State) : Result := opLax (.abs addr) s
/-- B3: R280, R143. -/
def execLaxIzy (zp : Byte) (s : State) : Result := opLax (.izy zp) s
/-- B7: R280, R137. -/
def execLaxZpy (zp : Byte) (s : State) : Result := opLax (.zpy zp) s
/-- BF: R280, R140. -/
def execLaxAby (addr : Word) (s : State) : Result := opLax (.aby addr) s

/-- `AAX`: `Store(operand, A & X)`; no flag (R281). -/
def opAax (m : MemMode) (s : State) : Result :=
  (store m (s.a &&& s.x) s).conclude fun _ s1 => .next s1

/-- 83: R281, R142. -/
def execAaxIzx (zp : Byte) (s : State) : Result := opAax (.izx zp) s
/-- 87: R281, R135. -/
def execAaxZp (zp : Byte) (s : State) : Result := opAax (.zp zp) s
/-- 8F: R281, R138. -/
def execAaxAbs (addr : Word) (s : State) : Result := opAax (.abs addr) s
/-- 97: R281, R137. -/
def execAaxZpy (zp : Byte) (s : State) : Result := opAax (.zpy zp) s

/-- `SLO` (R282). -/
def opSlo (m : MemMode) (s : State) : Result :=
  modifyThen asl (combineWithA fun a r => a ||| r) m s

/-- 03: R282, R142. -/
def execSloIzx (zp : Byte) (s : State) : Result := opSlo (.izx zp) s
/-- 07: R282, R135. -/
def execSloZp (zp : Byte) (s : State) : Result := opSlo (.zp zp) s
/-- 0F: R282, R138. -/
def execSloAbs (addr : Word) (s : State) : Result := opSlo (.abs addr) s
/-- 13: R282, R143. -/
def execSloIzy (zp : Byte) (s : State) : Result := opSlo (.izy zp) s
/-- 17: R282, R136. -/
def execSloZpx (zp : Byte) (s : State) : Result := opSlo (.zpx zp) s
/-- 1B: R282, R140. -/
def execSloAby (addr : Word) (s : State) : Result := opSlo (.aby addr) s
/-- 1F: R282, R139. -/
def execSloAbx (addr : Word) (s : State) : Result := opSlo (.abx addr) s

/-- `RLA` (R283). -/
def opRla (m : MemMode) (s : State) : Result :=
  modifyThen (rol s.p.c) (combineWithA fun a r => a &&& r) m s

/-- 23: R283, R142. -/
def execRlaIzx (zp : Byte) (s : State) : Result := opRla (.izx zp) s
/-- 27: R283, R135. -/
def execRlaZp (zp : Byte) (s : State) : Result := opRla (.zp zp) s
/-- 2F: R283, R138. -/
def execRlaAbs (addr : Word) (s : State) : Result := opRla (.abs addr) s
/-- 33: R283, R143. -/
def execRlaIzy (zp : Byte) (s : State) : Result := opRla (.izy zp) s
/-- 37: R283, R136. -/
def execRlaZpx (zp : Byte) (s : State) : Result := opRla (.zpx zp) s
/-- 3B: R283, R140. -/
def execRlaAby (addr : Word) (s : State) : Result := opRla (.aby addr) s
/-- 3F: R283, R139. -/
def execRlaAbx (addr : Word) (s : State) : Result := opRla (.abx addr) s

/-- `SRE` (R284). -/
def opSre (m : MemMode) (s : State) : Result :=
  modifyThen lsr (combineWithA fun a r => a ^^^ r) m s

/-- 43: R284, R142. -/
def execSreIzx (zp : Byte) (s : State) : Result := opSre (.izx zp) s
/-- 47: R284, R135. -/
def execSreZp (zp : Byte) (s : State) : Result := opSre (.zp zp) s
/-- 4F: R284, R138. -/
def execSreAbs (addr : Word) (s : State) : Result := opSre (.abs addr) s
/-- 53: R284, R143. -/
def execSreIzy (zp : Byte) (s : State) : Result := opSre (.izy zp) s
/-- 57: R284, R136. -/
def execSreZpx (zp : Byte) (s : State) : Result := opSre (.zpx zp) s
/-- 5B: R284, R140. -/
def execSreAby (addr : Word) (s : State) : Result := opSre (.aby addr) s
/-- 5F: R284, R139. -/
def execSreAbx (addr : Word) (s : State) : Result := opSre (.abx addr) s

/-- `RRA`: the carry out of the rotate is the carry in of the add (R285). -/
def opRra (m : MemMode) (s : State) : Result :=
  modifyThen (ror s.p.c) (fun r c s1 => addWithCarry r (setC c s1)) m s

/-- 63: R285, R142. -/
def execRraIzx (zp : Byte) (s : State) : Result := opRra (.izx zp) s
/-- 67: R285, R135. -/
def execRraZp (zp : Byte) (s : State) : Result := opRra (.zp zp) s
/-- 6F: R285, R138. -/
def execRraAbs (addr : Word) (s : State) : Result := opRra (.abs addr) s
/-- 73: R285, R143. -/
def execRraIzy (zp : Byte) (s : State) : Result := opRra (.izy zp) s
/-- 77: R285, R136. -/
def execRraZpx (zp : Byte) (s : State) : Result := opRra (.zpx zp) s
/-- 7B: R285, R140. -/
def execRraAby (addr : Word) (s : State) : Result := opRra (.aby addr) s
/-- 7F: R285, R139. -/
def execRraAbx (addr : Word) (s : State) : Result := opRra (.abx addr) s

/-- `DCP`: `DEC`, then `CMP` with the decremented byte (R286). -/
def opDcp (m : MemMode) (s : State) : Result :=
  modifyThen (fun v => (v - 1, false)) (fun r _ s1 => compareWith s1.a r s1) m s

/-- C3: R286, R142. -/
def execDcpIzx (zp : Byte) (s : State) : Result := opDcp (.izx zp) s
/-- C7: R286, R135. -/
def execDcpZp (zp : Byte) (s : State) : Result := opDcp (.zp zp) s
/-- CF: R286, R138. -/
def execDcpAbs (addr : Word) (s : State) : Result := opDcp (.abs addr) s
/-- D3: R286, R143. -/
def execDcpIzy (zp : Byte) (s : State) : Result := opDcp (.izy zp) s
/-- D7: R286, R136. -/
def execDcpZpx (zp : Byte) (s : State) : Result := opDcp (.zpx zp) s
/-- DB: R286, R140. -/
def execDcpAby (addr : Word) (s : State) : Result := opDcp (.aby addr) s
/-- DF: R286, R139. -/
def execDcpAbx (addr : Word) (s : State) : Result := opDcp (.abx addr) s

/-- `ISC`: `INC`, then `SBC` of the incremented byte (R287). -/
def opIsc (m : MemMode) (s : State) : Result :=
  modifyThen (fun v => (v + 1, false)) (fun r _ s1 => addWithCarry (r ^^^ 0xFF#8) s1) m s

/-- E3: R287, R142. -/
def execIscIzx (zp : Byte) (s : State) : Result := opIsc (.izx zp) s
/-- E7: R287, R135. -/
def execIscZp (zp : Byte) (s : State) : Result := opIsc (.zp zp) s
/-- EF: R287, R138. -/
def execIscAbs (addr : Word) (s : State) : Result := opIsc (.abs addr) s
/-- F3: R287, R143. -/
def execIscIzy (zp : Byte) (s : State) : Result := opIsc (.izy zp) s
/-- F7: R287, R136. -/
def execIscZpx (zp : Byte) (s : State) : Result := opIsc (.zpx zp) s
/-- FB: R287, R140. -/
def execIscAby (addr : Word) (s : State) : Result := opIsc (.aby addr) s
/-- FF: R287, R139. -/
def execIscAbx (addr : Word) (s : State) : Result := opIsc (.abx addr) s

/-- `SKB`: the operand byte is consumed, nothing is done; no data access (R288). -/
def opSkb (s : State) : Result :=
  .next s

/-- 04: R288, R135. -/
def execSkbZp04 (_zp : Byte) (s : State) : Result := opSkb s
/-- 14: R288, R136. -/
def execSkbZpx14 (_zp : Byte) (s : State) : Result := opSkb s
/-- 34: R288, R136. -/
def execSkbZpx34 (_zp : Byte) (s : State) : Result := opSkb s
/-- 44: R288, R135. -/
def execSkbZp44 (_zp : Byte) (s : State) : Result := opSkb s
/-- 54: R288, R136. -/
def execSkbZpx54 (_zp : Byte) (s : State) : Result := opSkb s
/-- 64: R288, R135. -/
def execSkbZp64 (_zp : Byte) (s : State) : Result := opSkb s
/-- 74: R288, R136. -/
def execSkbZpx74 (_zp : Byte) (s : State) : Result := opSkb s
/-- 80: R288, R134. -/
def execSkbImm (_v : Byte) (s : State) : Result := opSkb s
/-- D4: R288, R136. -/
def execSkbZpxD4 (_zp : Byte) (s : State) : Result := opSkb s
/-- F4: R288, R136. -/
def execSkbZpxF4 (_zp : Byte) (s : State) : Result := opSkb s

/-- `SKW`: the operand bytes are consumed, nothing is done; no data access (R289). -/
def opSkw (s : State) : Result :=
  .next s

/-- 0C: R289, R138. -/
def execSkwAbs (_addr : Word) (s : State) : Result := opSkw s
/-- 1C: R289, R139. -/
def execSkwAbx1C (_addr : Word) (s : State) : Result := opSkw s
/-- 3C: R289, R139. -/
def execSkwAbx3C (_addr : Word) (s : State) : Result := opSkw s
/-- 5C: R289, R139. -/
def execSkwAbx5C (_addr : Word) (s : State) : Result := opSkw s
/-- 7C: R289, R139. -/
def execSkwAbx7C (_addr : Word) (s : State) : Result := opSkw s
/-- DC: R289, R139. -/
def execSkwAbxDC (_addr : Word) (s : State) : Result := opSkw s
/-- FC: R289, R139. -/
def execSkwAbxFC (_addr : Word) (s : State) : Result := opSkw s

end Sys2Proof.Machine
end

