-- ==== Sys2Proof/Machine/Timing.lean ====
section
/-! DEFINITION. What an instruction costs (40_cpu_common.md R153; 70_reset_and_hazards.md R416). The cost decides
only how many PPU clocks follow the instruction. -/

namespace Sys2Proof.Machine

/-- The table of R416, a row for each high nibble; 0 is its dash: no cost. -/
def cyclesTable : List (List Nat) := [
  [0, 6, 0, 8, 3, 3, 5, 5, 3, 2, 2, 0, 4, 4, 6, 6],
  [2, 5, 0, 8, 4, 4, 6, 6, 2, 4, 2, 7, 4, 4, 7, 7],
  [6, 6, 0, 8, 3, 3, 5, 5, 4, 2, 2, 0, 4, 4, 6, 6],
  [2, 5, 0, 8, 4, 4, 6, 6, 2, 4, 2, 7, 4, 4, 7, 7],
  [6, 6, 0, 8, 3, 3, 5, 5, 3, 2, 2, 0, 3, 4, 6, 6],
  [2, 5, 0, 8, 4, 4, 6, 6, 2, 4, 2, 7, 4, 4, 7, 7],
  [6, 6, 0, 8, 3, 3, 5, 5, 4, 2, 2, 0, 5, 4, 6, 6],
  [2, 5, 0, 8, 4, 4, 6, 6, 2, 4, 2, 7, 4, 4, 7, 7],
  [2, 6, 0, 6, 3, 3, 3, 3, 2, 0, 2, 0, 4, 4, 4, 4],
  [2, 6, 0, 0, 4, 4, 4, 4, 2, 5, 2, 0, 0, 5, 0, 0],
  [2, 6, 2, 6, 3, 3, 3, 3, 2, 2, 2, 0, 4, 4, 4, 4],
  [2, 5, 0, 5, 4, 4, 4, 4, 2, 4, 2, 0, 4, 4, 4, 4],
  [2, 6, 0, 8, 3, 3, 5, 5, 2, 2, 2, 0, 4, 4, 6, 6],
  [2, 5, 0, 8, 4, 4, 6, 6, 2, 4, 2, 7, 4, 4, 7, 7],
  [2, 6, 0, 8, 3, 3, 5, 5, 2, 2, 2, 2, 4, 4, 6, 6],
  [2, 5, 0, 8, 4, 4, 6, 6, 2, 4, 2, 7, 4, 4, 7, 7]]

/-- `CYCLES(op)`; none for an unmapped byte and for the halt sentinel (R416). -/
def baseCycles (op : Byte) : Option Nat :=
  match gridEntry cyclesTable op.toNat with
  | some 0 => none
  | some n => some n
  | none => none

/-- `Cost(op, taken)` of an instruction about to execute in `s`; none for halt (R153). -/
def cost (i : Instr) (s : State) : Option Nat :=
  match baseCycles i.opcode with
  | some n => some (if branchTaken i.operation s.p then n + Config.branchTakenExtra else n)
  | none => none

end Sys2Proof.Machine
end

