-- ==== Sys2Proof/Machine/Cpu.lean ====
section
/-! DEFINITION. `Cpu.step()`, the sequencer's iteration, the observer, the state a fault leaves, and the trace line
(40_cpu_common.md R130, R131; 55_console.md R352, R355, R356; 60_exceptions.md R382). -/

namespace Sys2Proof.Machine

/-- The instruction at `PC`, its bytes fetched in address order and `PC` past them (R130, R131; 60_exceptions.md
R381). An unmapped opcode byte faults with the address it was fetched from (R371). -/
def fetchInstr (s : State) : Access Instr :=
  (fetch s).andThen fun op s1 =>
    match dispatch op with
    | none => .fault (.unknownOpcode op s.pc)
    | some (.bare i) => .ok i s1
    | some (.byte make) => (fetch s1).andThen fun b s2 => .ok (make b) s2
    | some (.word make) =>
      (fetch s1).andThen fun lo s2 => (fetch s2).andThen fun hi s3 => .ok (make (wordOf hi lo)) s3
    | some (.offset make) => (fetch s1).andThen fun b s2 => .ok (make (sext8 b)) s2

/-- `Cpu.step()`: fetch, execute, and the cost; the halt sentinel has no cost (R130, R153, R264). -/
def cpuStep (s : State) : CpuResult :=
  match fetchInstr s with
  | .fault f => .fault f
  | .ok i s1 =>
    match exec i s1 with
    | .fault f => .fault f
    | .refused r => .refused r
    | .next s2 =>
      match cost i s1 with
      | some n => .cycles n s2
      | none => .halt s2

/-- What the sequencer does with the outcome of `Cpu.step()`: three PPU clocks for each cycle; none on halt or on
a fault (R352). -/
def sequencer (r : CpuResult) : Result :=
  match r with
  | .cycles n s => .next (ppuSteps (Config.ppuStepsPerCycle * n) s)
  | .halt s => .next s
  | .fault f => raise f
  | .refused r => .refused r

/-- A step after the run has ended in halt has no meaning (R357, 93_implementation_defined.md K17). -/
def afterEnd : Result := raise .runEnded

/-- At most `n` calls of `Fetch()` from `s` on: each byte with the state right after it, up to the first fault (R131). -/
def fetchesFrom : Nat → State → List (Byte × State)
  | 0, _ => []
  | n + 1, s =>
    match fetch s with
    | .ok b s1 => (b, s1) :: fetchesFrom n s1
    | .fault _ => []

/-- How many operand bytes an opcode byte asks for; none where it is unmapped (30_encoding.md R101, R107). -/
def operandLength (op : Byte) : Nat :=
  match dispatch op with
  | some row => row.length - 1
  | none => 0

/-- The calls of `Fetch()` in the step from `s`: the opcode byte, then the operand bytes of its row. No step is made
after the run has ended (R130, R131; 55_console.md R357). -/
def stepFetches (s : State) : List (Byte × State) :=
  match s.run with
  | .halted => []
  | .running =>
    match fetch s with
    | .fault _ => []
    | .ok op s1 => (op, s1) :: fetchesFrom (operandLength op) s1

/-- The bytes that `Fetch()` returns in one step, in order, up to the first fault (R131): the "consumed opcode/operand
bytes" of the trace (55_console.md R355, R356). -/
def observed (s : State) : List Byte := (stepFetches s).map fun f => f.1

/-- The register state at an invocation of the observer. -/
def State.registers (s : State) : Registers where
  pc := s.pc
  a := s.a
  x := s.x
  y := s.y
  sp := s.sp
  p := s.p

/-- The invocation after a completed instruction, with the registers it leaves. None where the fetch or the execution
faults (DEDUCED); the halt sentinel counts as a completed instruction (DESIGN CHOICE; notes/assumptions/14.md). The PPU
clocks after it change none of these registers. -/
def completion (s : State) : List ObserverEvent :=
  match s.run, cpuStep s with
  | .running, .cycles _ t => [.completed t.registers]
  | .running, .halt t => [.completed t.registers]
  | _, _ => []

/-- The observer's invocations in one step, in order: one after each fetched byte, `PC` already past it (R131), then
one after the completed instruction (55_console.md R356). An observation: nothing in the machine reads it. -/
def observerEvents (s : State) : List ObserverEvent :=
  (stepFetches s).map (fun f => .fetched f.1 f.2.registers) ++ completion s

/-- What the accesses through the operand have changed when one of them faults: the read half of a read-modify-write
whose write faults, the first of the two reads of an indirect pointer, otherwise nothing (60_exceptions.md R382).
Resolving a memory operand reads work RAM alone. R382 says both that changes before the faulting access stay made and
that, where the write of a read-modify-write faults, "nothing else has changed yet"; where the read had side effects (INC
$2002 in strict mode, INC $2007 with the address at 0x3FFF) the two differ, and that those side effects stay is a DESIGN
CHOICE (notes/assumptions/6.md). -/
def accessesBeforeFault (i : Instr) (s : State) : State :=
  let afterRead (r : Access Byte) : State :=
    match r with
    | .ok _ s1 => s1
    | .fault _ => s
  match i.operand with
  | .mem m =>
    if i.operation ∈ [.sta, .stx, .sty, .aax] then s else afterRead ((resolve m s).andThen busRead)
  | .ind ptr => afterRead (busRead ptr s)
  | _ => s

/-- The state that a faulting step leaves: the changes made before the faulting access stay made, `PC` past the bytes
fetched (60_exceptions.md R382). It is not final and gets no step; a step's outcome does not carry it
(notes/assumptions/6.md). After the run has ended nothing is fetched. -/
def leftByFault (s : State) : State :=
  let afterFetches := ((stepFetches s).getLast?.map fun f => f.2).getD s
  match s.run, fetchInstr s with
  | .running, .ok i s1 => accessesBeforeFault i s1
  | _, _ => afterFetches

/-- The trace line of the instruction about to execute, captured before it does (R355, R388). Which steps have a line
is DESIGN CHOICE where the spec leaves it open (notes/assumptions/14.md): the halting fetch of 0x00 has one, since `HLT`
is an instruction of the table (95_test_vectors.md section 15: "not stated by the source"); an unmapped opcode byte has
none, since no instruction executes (its listing P4 shows the state at such a byte, but R355 gives one line "per
executed instruction"); none where the bytes cannot be fetched, and none after the run has ended. An instruction that
then faults in an access has its line. -/
def traceLine (s : State) : Option TraceLine :=
  match s.run, fetchInstr s with
  | .running, .ok _ _ =>
    some { pc := s.pc, bytes := observed s, a := s.a, x := s.x, y := s.y, p := s.p.pack, sp := s.sp }
  | _, _ => none

end Sys2Proof.Machine
end

