-- ==== Sys2Proof/Machine/Step.lean ====
section
/-! DEFINITION. One step of the machine, one `iterate()` of the sequencer (55_console.md R352), and the placing of an
instruction where it fetches. -/

namespace Sys2Proof.Machine

/-- One iteration: a whole instruction, then its PPU clocks (R352); no step after the run has ended (R357). -/
def step (s : State) : Host.Outcome State Fault Refusal :=
  match s.run with
  | .running => sequencer (cpuStep s)
  | .halted => afterEnd

/-- `s` with an instruction's bytes put where the next step fetches, and the run going on: it stands for the load of
a program from outside the machine (notes/assumptions/1.md). -/
def State.withFetchWord (s : State) (nbits w : Nat) : State :=
  match tableBytes nbits w with
  | [b0, b1, b2] =>
    { poke (s.pc + 2) b2 (poke (s.pc + 1) b1 (poke s.pc b0 s)) with run := .running }
  | _ => s

end Sys2Proof.Machine
end

