-- ==== Sys2Proof/Machine/Load.lean ====
section
/-! DEFINITION. Cpu reset and program load, which the host does once before the first step (70_reset_and_hazards.md
R400 to R406; 55_console.md R351; 20_memory.md R71). No instruction reaches them. -/

namespace Sys2Proof.Machine

/-- `ResetPC()`: the fixed address, or the vector's two bytes, the low one first (R402). -/
def resetPc (s : State) : Access Word :=
  match s.cfg.resetPc with
  | .fixed pc => .ok pc s
  | .vector addr =>
    (busRead addr s).andThen fun lo s1 =>
      (busRead (addr + 1) s1).andThen fun hi s2 => .ok (wordOf hi lo) s2

/-- Cpu reset: registers and flags; no memory and no Ppu state (R400, R401, R403). A run begins with it. -/
def cpuReset (s : State) : Access Unit :=
  (resetPc s).andThen fun pc s1 =>
    .ok () { s1 with a := 0x00#8, x := 0x00#8, y := 0x00#8, sp := 0xFD#8, pc := pc, p := Flags.reset, run := .running }

/-- The image into the bank slots: 32 KB as two buffers, 16 KB as one seen in both; any other length is refused
(20_memory.md R71). -/
def installImage (image : List Byte) (s : State) : Access Unit :=
  if image.length = 0x8000 then
    (bulkWrite .prg1 0 (image.take 0x4000) { s with prg := .split [] [] }).andThen fun _ s1 =>
      bulkWrite .prg2 0 (image.drop 0x4000) s1
  else if image.length = 0x4000 then bulkWrite .prg1 0 image { s with prg := .shared [] }
  else .fault (.imageSizeRefused image.length)

/-- Program load: install the image, then reset the Cpu (55_console.md R351). -/
def loadProgram (image : List Byte) (s : State) : Access Unit :=
  (installImage image s).andThen fun _ s1 => cpuReset s1

/-- A launch: the constructed block under the given parameters and initial memory contents, and program load (R404,
R405, R407). `State.reset` is the block before this load, under the defaults. -/
def launch (cfg : Config) (wram ioreg sram oam nt pal : Memory) (image : List Byte) : Access Unit :=
  loadProgram image
    { State.reset with
      cfg := cfg
      wram := wram
      ioreg := ioreg
      sram := sram
      ppu := { Ppu.reset with oam := oam, nt := nt, pal := pal } }

end Sys2Proof.Machine
end

