-- ==== Sys2Proof/Safety.lean ====
section
/-! DEFINITION. The terms in which claims speak: the invariant of the machine, reachability, the faults a program
can meet, and states that agree but for what the Cpu cannot see. -/

namespace Sys2Proof.Machine

/-- The banks are in canonical form. -/
def Prg.wf : Prg → Bool
  | .unloaded => true
  | .shared m => m.wf 0x4000
  | .split m1 m2 => m1.wf 0x4000 && m2.wf 0x4000

/-- The invariant: every memory in canonical form within its size, the counters in their ranges (10_state.md R39),
the framebuffer's cells in order and in range (R40). -/
def State.wf (s : State) : Bool :=
  s.wram.wf Region.wram.size && s.ioreg.wf Region.ioreg.size && s.sram.wf Region.sram.size && s.prg.wf &&
    s.ppu.oam.wf Region.oam.size && s.ppu.nt.wf Region.nt.size && s.ppu.pal.wf Region.pal.size &&
    decide (s.ppu.scanline ≤ 261) && decide (s.ppu.cycle ≤ 340) && s.fb.wf

/-- `t` is `s` after some number of steps, none of which faulted. -/
inductive Reaches (s : State) : State → Prop where
  | start : Reaches s s
  | step {t u : State} : Reaches s t → Machine.step t = .next u → Reaches s u

/-- The faults that a step can raise (60_exceptions.md R370): the taxonomy less `InvalidPpuRegister`,
`MemoryOutOfRange` (unreachable: R301, R62) and `ImageSizeRefused` (load only), and the model's own two. -/
def Fault.raisedByStep : Fault → Bool
  | .unknownOpcode _ _ => true
  | .readOnlyRegisterWrite a => decide (a = 0x2002#16)
  | .writeOnlyRegisterRead a => decide (a = 0x2005#16 ∨ a = 0x2006#16)
  | .ppuBusUnmapped a => decide (a.toNat < 0x2000)
  | .romWrite a => decide (0x8000 ≤ a.toNat)
  | .noProgramLoaded r i => decide ((r = .prg1 ∨ r = .prg2) ∧ i < 0x4000)
  | .runEnded => true
  | .invalidPpuRegister _ | .memoryOutOfRange _ _ | .imageSizeRefused _ => false

/-- The faults that an instruction's own accesses can raise, the "bus faults" of R370. -/
def Fault.raisedByAccess : Fault → Bool
  | .unknownOpcode _ _ | .runEnded => false
  | f => f.raisedByStep

/-- A run from `s` is safe if no step of it is refused and none raises a fault other than by ending. -/
def Safe (s : State) : Prop :=
  ∀ t, Reaches s t → t.run = .running → ∃ u, Machine.step t = .next u

/-- What a bus read may change, by its side effects (20_memory.md R81): the two toggles, vblank, the 0x2007 buffer and
address, the counter of free bytes; nothing else. The scroll latch's value and the sprite flags are kept. -/
def ReadEffect (s t : State) : Prop :=
  ∃ vblank scrollToggle vaddr readBuf n,
    t = { s with
      ppu := { s.ppu with
        status := { s.ppu.status with vblank := vblank }
        scroll := { s.ppu.scroll with toggle := scrollToggle }
        vaddr := vaddr
        readBuf := readBuf }
      freeCount := n }

/-- What no bus access changes: the Cpu's registers and flags, the framebuffer, the Ppu's counters, the launch
parameters and the run's status. -/
structure KeepsCpu (s t : State) : Prop where
  a : t.a = s.a
  x : t.x = s.x
  y : t.y = s.y
  pc : t.pc = s.pc
  sp : t.sp = s.sp
  p : t.p = s.p
  fb : t.fb = s.fb
  cfg : t.cfg = s.cfg
  run : t.run = s.run
  scanline : t.ppu.scanline = s.ppu.scanline
  cycle : t.ppu.cycle = s.ppu.cycle

/-- The two states differ at most in the framebuffer. -/
def SameButFb (s t : State) : Prop := { s with fb := t.fb } = t

/-- The two states differ at most in the framebuffer and in the Ppu's two counters. -/
def SameButTiming (s t : State) : Prop :=
  { s with fb := t.fb, ppu := { s.ppu with scanline := t.ppu.scanline, cycle := t.ppu.cycle } } = t

/-- Two results of a step: next states related by `rel`, or the same fault or refusal. -/
def Result.related (rel : State → State → Prop) : Result → Result → Prop
  | .next s, .next t => rel s t
  | .fault f, .fault g => f = g
  | .refused r, .refused q => r = q
  | _, _ => False

end Sys2Proof.Machine
end

