-- ==== Sys2Proof/Certificates/Slice0/Obligations.lean ====
section
/-! DEFINITION. The statements about the model, for the provers. First the terms they speak in, written from the
spec's own formulas and not from the model's operations; then one definition for each statement. Every statement
speaks of every state and every setting of the launch parameters unless it says otherwise. An `exec` statement's
state has the instruction's bytes fetched and `PC` past them (notes/assumptions/5.md). -/

namespace Sys2Proof.Machine

/-- An operation has exactly these opcode bytes, each with this format: its whole row of 30_encoding.md R105, R106. -/
def Encodes (op : Operation) (rows : List (Byte × Format)) : Prop :=
  ∀ i : Instr, i.operation = op ↔ (i.opcode, i.operand.format) ∈ rows

/-- The state after Cpu reset with `PC` at `pc` (70_reset_and_hazards.md R400, R401). A run begins with it: the model's
own field `run` is running (notes/assumptions/4.md). -/
def afterReset (pc : Word) (s : State) : State :=
  { s with
    a := 0x00#8, x := 0x00#8, y := 0x00#8, sp := 0xFD#8, pc := pc
    p := { n := false, v := false, b := false, d := false, i := true, z := false, c := false }
    run := .running }

/-- The 29 unmapped opcode bytes of 30_encoding.md R107. -/
def unmappedBytes : List Byte :=
  [0x02#8, 0x0B#8, 0x12#8, 0x22#8, 0x2B#8, 0x32#8, 0x42#8, 0x4B#8, 0x52#8, 0x62#8] ++
  [0x6B#8, 0x72#8, 0x82#8, 0x89#8, 0x8B#8, 0x92#8, 0x93#8, 0x9B#8, 0x9C#8, 0x9E#8] ++
  [0x9F#8, 0xAB#8, 0xB2#8, 0xBB#8, 0xC2#8, 0xCB#8, 0xD2#8, 0xE2#8, 0xF2#8]

/-- The length of a format (30_encoding.md R101). -/
def formatLength : Format → Nat
  | .imp | .acc => 1
  | .imm | .zp | .zpx | .zpy | .izx | .izy | .rel => 2
  | .abs | .abx | .aby | .ind => 3

/-- One iteration of the sequencer once the instruction is known (55_console.md R352): the instruction, then three
PPU clocks for each cycle of its cost; none where it has no cost. -/
def runDecoded (i : Instr) (s : State) : Result :=
  match exec i s with
  | .next t =>
    match cost i s with
    | some n => .next (ppuSteps (3 * n) t)
    | none => .next t
  | .fault f => .fault f
  | .refused r => .refused r

/-- A CpuBus read can complete (20_memory.md R63 to R74, R81): no write-only register in strict mode, no 0x2007
access below 0x2000 of the PpuBus, no bank before an image is loaded. -/
def CanRead (addr : Word) (s : State) : Prop :=
  match cpuTarget addr with
  | .cell .prg1 _ => s.prg ≠ .unloaded
  | .cell .prg2 _ => s.prg ≠ .unloaded
  | .cell _ _ => True
  | .ppuRegister r =>
    ¬ (s.cfg.regAccess = .strict ∧ (r = 0x2005#16 ∨ r = 0x2006#16)) ∧
      ¬ (r = 0x2007#16 ∧ s.ppu.vaddr.value.toNat % 0x4000 < 0x2000)

/-- A CpuBus write can complete: not to 0x2002 in strict mode, no 0x2007 access below 0x2000 of the PpuBus, not to a
bank under `PRG_WRITE_POLICY = fault` or, under `store`, before an image is loaded. -/
def CanWrite (addr : Word) (s : State) : Prop :=
  match cpuTarget addr with
  | .cell .prg1 _ => s.cfg.prgWrite = .ignore ∨ (s.cfg.prgWrite = .store ∧ s.prg ≠ .unloaded)
  | .cell .prg2 _ => s.cfg.prgWrite = .ignore ∨ (s.cfg.prgWrite = .store ∧ s.prg ≠ .unloaded)
  | .cell _ _ => True
  | .ppuRegister r =>
    ¬ (s.cfg.regAccess = .strict ∧ r = 0x2002#16) ∧
      ¬ (r = 0x2007#16 ∧ s.ppu.vaddr.value.toNat % 0x4000 < 0x2000)

/-- The fault of a CpuBus read that cannot complete (60_exceptions.md R374, R376; a bank before an image is loaded is the
model's own, notes/assumptions/1.md). -/
def readFault (addr : Word) (s : State) : Fault :=
  match cpuTarget addr with
  | .cell r k => .noProgramLoaded r k
  | .ppuRegister r =>
    if r = 0x2007#16 then .ppuBusUnmapped (s.ppu.vaddr.value.setWidth 14) else .writeOnlyRegisterRead r

/-- The fault of a CpuBus write that cannot complete (60_exceptions.md R373, R376; 20_memory.md R72; a bank before an
image is loaded as for a read). -/
def writeFault (addr : Word) (s : State) : Fault :=
  match cpuTarget addr with
  | .cell r k => if s.cfg.prgWrite = .fault then .romWrite addr else .noProgramLoaded r k
  | .ppuRegister r =>
    if r = 0x2007#16 then .ppuBusUnmapped (s.ppu.vaddr.value.setWidth 14) else .readOnlyRegisterWrite r

/-- The 14-bit address a 0x2007 access presents (50_ppu.md R316), as a number. -/
def dataAddr (s : State) : Nat := s.ppu.vaddr.value.toNat % 0x4000

/-- The state after `VADDR.value` has moved on by `Increment()` (50_ppu.md R318). -/
def stepped (s : State) : State :=
  { s with ppu := { s.ppu with vaddr := { s.ppu.vaddr with value := s.ppu.vaddr.value +
      (match s.cfg.vramIncrement with
       | .standard => if s.ppu.ctrl.vramIncrement then 32#16 else 1#16
       | .off => 0#16) } } }

/-- `LatchWrite` (50_ppu.md R311), on the two bytes of the value. -/
def latched (l : Latch) (v : Byte) : Latch :=
  match l.toggle with
  | .first => { value := v ++ l.value.extractLsb' 0 8, toggle := .second }
  | .second => { value := l.value.extractLsb' 8 8 ++ v, toggle := .first }

/-- The flags after `SetZN(v)` (40_cpu_common.md R146): every other flag stays. -/
def znOf (v : Byte) (p : Flags) : Flags := { p with z := decide (v = 0#8), n := v.getLsbD 7 }

/-- `AddWithCarry(m)` with carry in `c` (42_arith_logic.md R206), overflow by its second formula. -/
def addedTo (m : Byte) (c : Bool) (t : State) : State :=
  let sum := t.a.toNat + m.toNat + c.toNat
  let r := BitVec.ofNat 8 (sum % 256)
  { t with
    a := r
    p := { znOf r t.p with
      c := decide (255 < sum)
      v := decide ((t.a ^^^ r) &&& (m ^^^ r) &&& 0x80#8 ≠ 0#8) } }

/-- The subtraction of 42_arith_logic.md R191 in integers: `A - m - (1 - C)`, carry when no borrow occurred. -/
def subtractedFrom (m : Byte) (c : Bool) (t : State) : State :=
  let d : Int := (t.a.toNat : Int) - m.toNat - (1 - c.toNat)
  let r := BitVec.ofInt 8 d
  { t with
    a := r
    p := { znOf r t.p with
      c := decide (0 ≤ d)
      v := decide (t.a.getLsbD 7 ≠ m.getLsbD 7 ∧ r.getLsbD 7 ≠ t.a.getLsbD 7) } }

/-- `Compare(r, m)` (42_arith_logic.md R207): only `C`, `Z` and `N` are written. -/
def comparedWith (r m : Byte) (t : State) : State :=
  { t with p := { znOf (BitVec.ofInt 8 ((r.toNat : Int) - m.toNat)) t.p with c := decide (m.toNat ≤ r.toNat) } }

/-- The shift functions of 43_shift_rotate.md R224 in numbers: the new byte and the carry out. -/
def shifted (op : Operation) (c : Bool) (v : Byte) : Byte × Bool :=
  match op with
  | .asl => (BitVec.ofNat 8 (2 * v.toNat % 256), decide (128 ≤ v.toNat))
  | .lsr => (BitVec.ofNat 8 (v.toNat / 2), decide (v.toNat % 2 = 1))
  | .rol => (BitVec.ofNat 8 (2 * v.toNat % 256 + c.toNat), decide (128 ≤ v.toNat))
  | .ror => (BitVec.ofNat 8 (v.toNat / 2 + 128 * c.toNat), decide (v.toNat % 2 = 1))
  | _ => (v, c)

/-- `PackP()` as the sum of 40_cpu_common.md R150. -/
def packedSum (p : Flags) : Nat :=
  p.n.toNat * 128 + p.v.toNat * 64 + 32 + p.b.toNat * 16 + p.d.toNat * 8 + p.i.toNat * 4 + p.z.toNat * 2 + p.c.toNat

/-- `UnpackP(b)` (40_cpu_common.md R151): bit 5 is discarded, bit 4 follows `PULL_B_POLICY`. -/
def unpacked (policy : PullBPolicy) (b : Byte) (p : Flags) : Flags where
  n := b.getLsbD 7
  v := b.getLsbD 6
  b := if policy = .load then b.getLsbD 4 else p.b
  d := b.getLsbD 3
  i := b.getLsbD 2
  z := b.getLsbD 1
  c := b.getLsbD 0

/-- Where in work RAM the byte at `0x0100 + sp` is (10_state.md R22, R27). -/
def stackIndex (sp : Byte) : Nat := 0x100 + sp.toNat

/-- The byte of the stack page at `0x0100 + sp`. -/
def stackByte (s : State) (sp : Byte) : Byte := s.wram.read (stackIndex sp)

/-- The instruction reads its operand's byte, once, and completes in `f` of that byte and of the state after the
read; a fault of the read is its fault. -/
def ReadsOperand (i : Instr) (f : Byte → State → State) : Prop :=
  ∀ (src : Src) (s : State), i.operand = src.operand →
    (∀ v t, load src s = .ok v t → exec i s = .next (f v t)) ∧
    (∀ e, load src s = .fault e → exec i s = .fault e)

/-- The instruction writes `value` of the state to the address of its memory operand, once and with no read, and
completes in the state after the write; a fault of the write is its fault. -/
def StoresByte (i : Instr) (value : State → Byte) : Prop :=
  ∀ (m : MemMode) (s : State) (addr : Word) (s1 : State), i.operand = .mem m → resolve m s = .ok addr s1 →
    (∀ t, busWrite addr (value s) s1 = .ok () t → exec i s = .next t) ∧
    (∀ e, busWrite addr (value s) s1 = .fault e → exec i s = .fault e)

/-- The instruction reads a byte `old` at the address of its memory operand, writes `f` of the carry and of `old`
back there, and completes in `g` of the carry, of `old` and of the state after the write (40_cpu_common.md R154); a
fault of the read or of the write is its fault. -/
def ModifiesMemory (i : Instr) (f : Bool → Byte → Byte) (g : Bool → Byte → State → State) : Prop :=
  ∀ (m : MemMode) (s : State) (addr : Word) (s1 : State), i.operand = .mem m → resolve m s = .ok addr s1 →
    (∀ e, busRead addr s1 = .fault e → exec i s = .fault e) ∧
    (∀ old s2, busRead addr s1 = .ok old s2 →
      (∀ t, busWrite addr (f s.p.c old) s2 = .ok () t → exec i s = .next (g s.p.c old t)) ∧
      (∀ e, busWrite addr (f s.p.c old) s2 = .fault e → exec i s = .fault e))

/-- The operations that write the byte at the address of a memory operand. -/
def storingOps : List Operation :=
  [.sta, .stx, .sty, .aax, .inc, .dec, .asl, .lsr, .rol, .ror, .slo, .rla, .sre, .rra, .dcp, .isc]

/-- The operations that read the byte at the address of a memory operand. -/
def readingOps : List Operation :=
  [.lda, .ldx, .ldy, .lax, .adc, .sbc, .and, .ora, .eor, .bit, .cmp, .cpx, .cpy] ++
  [.inc, .dec, .asl, .lsr, .rol, .ror, .slo, .rla, .sre, .rra, .dcp, .isc]

/-- Every access that the instruction makes through its operand can complete, each in the state in which it is made:
the read of the operand's byte, the write of it after that read, the two reads of an indirect pointer. An instruction
with no such access (the stack's are always in work RAM) meets this in every state. -/
def AccessesCanComplete (i : Instr) (s : State) : Prop :=
  (∀ m addr s1, i.operand = .mem m → resolve m s = .ok addr s1 →
    (i.operation ∈ readingOps → CanRead addr s1 ∧
      (i.operation ∈ storingOps → ∀ v s2, busRead addr s1 = .ok v s2 → CanWrite addr s2)) ∧
    (i.operation ∉ readingOps → i.operation ∈ storingOps → CanWrite addr s1)) ∧
  (∀ p, i.operand = .ind p → CanRead p s ∧
    ∀ v s1, busRead p s = .ok v s1 → CanRead ((p &&& 0xFF00#16) ||| ((p + 1#16) &&& 0x00FF#16)) s1)

/-- The base cost by operation and format, as the words below the table of 70_reset_and_hazards.md R416 give it. -/
def cyclesByFormat (op : Operation) (f : Format) : Nat :=
  if op = .php ∨ op = .pha then 3
  else if op = .plp ∨ op = .pla then 4
  else if op = .rts ∨ op = .rti ∨ op = .jsr then 6
  else if op = .jmp then (if f = .ind then 5 else 3)
  else if op ∈ [.sta, .stx, .sty, .aax] then
    match f with
    | .zp => 3
    | .zpx | .zpy | .abs => 4
    | .abx | .aby => 5
    | _ => 6
  else if op ∈ storingOps then
    match f with
    | .acc => 2
    | .zp => 5
    | .zpx | .abs => 6
    | .abx | .aby => 7
    | _ => 8
  else
    match f with
    | .imp | .acc | .imm | .rel => 2
    | .zp => 3
    | .zpx | .zpy | .abs | .abx | .aby => 4
    | .izx => 6
    | _ => 5

/-- Program load with this image puts `t` in place of `s` and then resets the Cpu, by either `RESET_PC_POLICY`: `PC` is
the fixed address, or the two bytes read at the vector's address, low byte first. A vector that lies in the banks finds
the image's own bytes; a 16 KB image is seen in both slots. -/
def LoadsAndResets (image : List Byte) (s t : State) : Prop :=
  (∀ pc, s.cfg.resetPc = .fixed pc → loadProgram image s = .ok () (afterReset pc t)) ∧
  (∀ (addr : Word) (lo hi : Byte), s.cfg.resetPc = .vector addr → 0x8000 ≤ addr.toNat → addr.toNat < 0xFFFF →
    image[(addr.toNat - 0x8000) % image.length]? = some lo →
    image[(addr.toNat + 1 - 0x8000) % image.length]? = some hi →
    loadProgram image s = .ok () (afterReset (hi ++ lo) t)) ∧
  (∀ (addr : Word) (lo hi : Byte) (u v : State), s.cfg.resetPc = .vector addr → busRead addr t = .ok lo u →
    busRead (addr + 1#16) u = .ok hi v → loadProgram image s = .ok () (afterReset (hi ++ lo) v)) ∧
  (∀ (addr : Word) (e : Fault), s.cfg.resetPc = .vector addr → busRead addr t = .fault e →
    loadProgram image s = .fault e) ∧
  (∀ (addr : Word) (lo : Byte) (u : State) (e : Fault), s.cfg.resetPc = .vector addr → busRead addr t = .ok lo u →
    busRead (addr + 1#16) u = .fault e → loadProgram image s = .fault e)

end Sys2Proof.Machine

section
open Sys2Proof Sys2Proof.Machine

/-! Reset and program load. -/

/-- 70_reset_and_hazards.md section 1: Cpu reset sets the registers and the flags, `PC` by `RESET_PC_POLICY`, and
changes no memory and no Ppu state; the packed status is then 0x24. That the fixed address and the vector's address may
be any is notes/assumptions/11.md, and that a reset sets the model's own field `run` is notes/assumptions/4.md. -/
def Obligations.CpuResetSetsRegisters : Prop :=
  (∀ (s : State) (pc : Word), s.cfg.resetPc = .fixed pc → cpuReset s = .ok () (afterReset pc s)) ∧
  (∀ (s : State) (addr : Word) (lo hi : Byte), s.cfg.resetPc = .vector addr →
    peek addr s = some lo → peek (addr + 1) s = some hi → cpuReset s = .ok () (afterReset (hi ++ lo) s)) ∧
  Config.default.resetPc = .fixed 0xC000#16 ∧
  (∀ (pc : Word) (s : State), (afterReset pc s).p.pack = 0x24#8)

/-- The machine right after reset, field by field (10_state.md; 70_reset_and_hazards.md sections 1 and 2), with each
launch parameter at its default of 00_scope.md section 4. The Ppu's values are the spec's own decision D26
(notes/assumptions/10.md), the absent image is 1.md, the memories with nothing listed are 2.md, the parameters as a field
are 3.md, and `run` is 4.md: the model's choices among what the spec leaves open. `freeCount` is the model's own field
and its value the model's choice (9.md); no other statement speaks of that value. -/
def Obligations.ResetStateValues : Prop :=
  State.reset.a = 0x00#8 ∧ State.reset.x = 0x00#8 ∧ State.reset.y = 0x00#8 ∧
  State.reset.pc = 0xC000#16 ∧ State.reset.sp = 0xFD#8 ∧
  State.reset.p = { n := false, v := false, b := false, d := false, i := true, z := false, c := false } ∧
  State.reset.ppu.ctrl.pack = 0x00#8 ∧ State.reset.ppu.mask.pack = 0x00#8 ∧ State.reset.ppu.status.pack = 0x00#8 ∧
  State.reset.ppu.oamAddr = 0x00#8 ∧ State.reset.ppu.oamDma = 0x00#8 ∧ State.reset.ppu.readBuf = 0x00#8 ∧
  State.reset.ppu.scroll = { value := 0x0000#16, toggle := .first } ∧
  State.reset.ppu.vaddr = { value := 0x0000#16, toggle := .first } ∧
  State.reset.ppu.scanline = 0 ∧ State.reset.ppu.cycle = 0 ∧
  State.reset.prg = .unloaded ∧ State.reset.run = .running ∧
  State.reset.wram = [] ∧ State.reset.ioreg = [] ∧ State.reset.sram = [] ∧
  State.reset.ppu.oam = [] ∧ State.reset.ppu.nt = [] ∧ State.reset.ppu.pal = [] ∧
  State.reset.fb = [] ∧
  State.reset.cfg.resetPc = .fixed 0xC000#16 ∧ State.reset.cfg.pullB = .load ∧ State.reset.cfg.prgWrite = .store ∧
  State.reset.cfg.vblank = .off ∧ State.reset.cfg.vramIncrement = .standard ∧
  State.reset.cfg.oamDataIncrement = false ∧ State.reset.cfg.regAccess = .strict ∧
  State.reset.freeCount = 0

/-- The invariant holds right after reset. -/
def Obligations.ResetStateIsWellFormed : Prop := State.reset.wf = true

/-- 20_memory.md section 2, 55_console.md section 2: a 32 KB image fills two independent buffers, a 16 KB image one
buffer seen in both slots, any other length is refused; then the Cpu is reset, with `PC` by `RESET_PC_POLICY`. Nothing
changes but the banks and what Cpu reset sets. That a reset sets the model's own field `run` is notes/assumptions/4.md;
that the fixed address and the vector's address may be any, and the vector's low byte being read first, are 11.md. -/
def Obligations.ProgramLoadInstallsTheImage : Prop :=
  ∀ (image : List Byte) (s : State),
    (image.length = 0x8000 → ∃ m1 m2,
      (∀ k, k < 0x4000 → image[k]? = some (m1.read k) ∧ image[0x4000 + k]? = some (m2.read k)) ∧
      LoadsAndResets image s { s with prg := .split m1 m2 }) ∧
    (image.length = 0x4000 → ∃ m,
      (∀ k, k < 0x4000 → image[k]? = some (m.read k)) ∧
      LoadsAndResets image s { s with prg := .shared m }) ∧
    (image.length ≠ 0x8000 → image.length ≠ 0x4000 →
      loadProgram image s = .fault (.imageSizeRefused image.length))

/-- A launch, with any parameters and any initial memories in canonical form, leaves a well-formed machine that is
running and has an image (70_reset_and_hazards.md section 2, 55_console.md section 2). That a launch leaves the model's
own field `run` running is the model's choice (notes/assumptions/4.md), and that the parameters are held in the field
`cfg` of the state is too (notes/assumptions/3.md). -/
def Obligations.LaunchIsWellFormed : Prop :=
  ∀ (cfg : Config) (wram ioreg sram oam nt pal : Memory) (image : List Byte) (t : State),
    wram.wf 0x800 = true → ioreg.wf 0x20 = true → sram.wf 0x3FE0 = true →
    oam.wf 0x100 = true → nt.wf 0x1000 = true → pal.wf 0x20 = true →
    launch cfg wram ioreg sram oam nt pal image = .ok () t →
    t.wf = true ∧ t.run = .running ∧ t.prg ≠ .unloaded ∧ t.cfg = cfg

/-! The step and the decoder. -/

/-- 40_cpu_common.md section 1 and 55_console.md section 3. While the run goes on, a step is one iteration of the
sequencer: it fetches through the CpuBus byte by byte, in address order, moving `PC` past each byte (R131), and runs
what those bytes decode to, with three PPU clocks for each cycle after it. Where the bytes lie in memory regions the
fetch changes nothing but `PC`. -/
def Obligations.StepRunsTheDecodedInstruction : Prop :=
  (∀ s : State,
    (∀ b u, busRead s.pc s = .ok b u → fetch s = .ok b { u with pc := s.pc + 1#16 }) ∧
    (∀ f, busRead s.pc s = .fault f → fetch s = .fault f)) ∧
  (∀ (s s1 : State) (i : Instr), s.run = .running → fetchInstr s = .ok i s1 → step s = runDecoded i s1) ∧
  (∀ (s : State) (f : Fault), s.run = .running → fetchInstr s = .fault f → step s = .fault f) ∧
  (∀ (s : State) (i : Instr) (bytes rest : List Byte), s.run = .running → decode bytes = .ok (i, rest) →
    (∀ k, k < bytes.length - rest.length → peek (s.pc + BitVec.ofNat 16 k) s = bytes[k]?) →
    step s = runDecoded i { s with pc := s.pc + BitVec.ofNat 16 (bytes.length - rest.length) })

/-- 30_encoding.md section 4, 40_cpu_common.md section 1, 60_exceptions.md section 1: the 29 unmapped bytes are exactly
those with no dispatch entry, and fetching one as an opcode faults with the byte and the address it was fetched from,
`PC` past it. That the state a fault leaves is given beside the step's outcome, by `leftByFault`, is the model's choice
(notes/assumptions/6.md). -/
def Obligations.UnmappedBytesFault : Prop :=
  (∀ b : Byte, dispatch b = none ↔ b ∈ unmappedBytes) ∧
  (∀ (b : Byte) (rest : List Byte), decode (b :: rest) = .error (.unknownOpcode b) ↔ b ∈ unmappedBytes) ∧
  (∀ (s u : State) (b : Byte), s.run = .running → busRead s.pc s = .ok b u → b ∈ unmappedBytes →
    step s = .fault (.unknownOpcode b s.pc) ∧ leftByFault s = { u with pc := s.pc + 1#16 }) ∧
  (∀ (s u : State) (b c : Byte) (pc : Word), busRead s.pc s = .ok b u → b ∉ unmappedBytes →
    step s ≠ .fault (.unknownOpcode c pc))

/-- 45_control.md section 4 and 55_console.md section 4: the halt sentinel ends the run, changes nothing but `PC`,
costs nothing and is followed by no PPU clock. That the model writes the end of the run into `run`, and that a step
after it faults, is the model's choice (notes/assumptions/4.md). -/
def Obligations.HaltEndsTheRun : Prop :=
  Encodes .hlt [(0x00#8, .imp)] ∧
  (∀ s : State, exec .hlt s = .next { s with run := .halted } ∧ cost .hlt s = none) ∧
  (∀ s u : State, s.run = .running → busRead s.pc s = .ok 0x00#8 u →
    step s = .next { u with pc := s.pc + 1#16, run := .halted }) ∧
  (∀ s : State, s.run = .halted → step s = .fault .runEnded)

/-- Words written out from the encodings of 30_encoding.md R101, R105, R106, one for each format, decode to the
instruction they stand for. -/
def Obligations.SpecWordsDecode : Prop :=
  decode [0x18#8] = .ok (.clc, []) ∧ decode [0x0A#8] = .ok (.aslAcc, []) ∧ decode [0x00#8] = .ok (.hlt, []) ∧
  decode [0xA9#8, 0x80#8] = .ok (.ldaImm 0x80#8, []) ∧ decode [0xC6#8, 0x10#8] = .ok (.decZp 0x10#8, []) ∧
  decode [0xB5#8, 0xFA#8] = .ok (.ldaZpx 0xFA#8, []) ∧ decode [0x97#8, 0xFF#8] = .ok (.aaxZpy 0xFF#8, []) ∧
  decode [0x4C#8, 0xF5#8, 0xC5#8] = .ok (.jmpAbs 0xC5F5#16, []) ∧
  decode [0x9D#8, 0x34#8, 0x12#8] = .ok (.staAbx 0x1234#16, []) ∧
  decode [0x7B#8, 0xFF#8, 0x02#8] = .ok (.rraAby 0x02FF#16, []) ∧
  decode [0x6C#8, 0xFF#8, 0x02#8] = .ok (.jmpInd 0x02FF#16, []) ∧
  decode [0x01#8, 0x20#8] = .ok (.oraIzx 0x20#8, []) ∧ decode [0xD1#8, 0x20#8] = .ok (.cmpIzy 0x20#8, []) ∧
  decode [0xF0#8, 0xFE#8] = .ok (.beq (-2), []) ∧ decode [0xEB#8, 0x40#8] = .ok (.sbcImmEB 0x40#8, []) ∧
  decode [0x1A#8] = .ok (.nop1A, []) ∧ decode [0x20#8, 0x34#8] = .error .truncated ∧
  decode [0x02#8] = .error (.unknownOpcode 0x02#8)

/-- Decoding an encoded well-formed instruction gives it back, whatever bytes follow: every one of the 227, with
every operand its encoding admits. -/
def Obligations.DecodeAfterEncode : Prop :=
  ∀ (i : Instr) (rest : List Byte), i.wf = true → decode (encode i ++ rest) = .ok (i, rest)

/-- What decodes is well formed, and its encoding is the bytes it was decoded from. -/
def Obligations.EncodeAfterDecode : Prop :=
  ∀ (bytes rest : List Byte) (i : Instr), decode bytes = .ok (i, rest) → i.wf = true ∧ bytes = encode i ++ rest

/-- 30_encoding.md R103: the length of an instruction is the length of its format and a function of its opcode byte
alone; an unmapped byte has no length; byte 0x00 has length 1. -/
def Obligations.LengthIsFixedByTheOpcode : Prop :=
  (∀ i : Instr, (encode i).length = formatLength i.operand.format) ∧
  (∀ i j : Instr, i.opcode = j.opcode → i.operand.format = j.operand.format ∧ i.operation = j.operation) ∧
  (∀ (i : Instr) (bytes rest : List Byte), decode bytes = .ok (i, rest) →
    bytes.head? = some i.opcode ∧ bytes.length = formatLength i.operand.format + rest.length) ∧
  (∀ b ∈ unmappedBytes, ∀ i : Instr, i.opcode ≠ b) ∧
  (∀ i : Instr, i.opcode = 0x00#8 → (encode i).length = 1)

/-! The whole machine. -/

/-- Every step keeps the invariant: the memories in canonical form within their sizes (20_memory.md section 1), the
counters within their ranges and the framebuffer within its cells (10_state.md section 3). -/
def Obligations.StepKeepsTheInvariant : Prop :=
  ∀ s t : State, s.wf = true → step s = .next t → t.wf = true

/-- 10_state.md section 5: no step changes a launch parameter, and the bank slots keep their shape, one buffer or two
(20_memory.md section 2). -/
def Obligations.StepKeepsParametersAndBankShape : Prop :=
  ∀ s t : State, step s = .next t →
    t.cfg = s.cfg ∧
    (s.prg = .unloaded → t.prg = .unloaded) ∧
    (∀ m, s.prg = .shared m → ∃ m', t.prg = .shared m') ∧
    (∀ m1 m2, s.prg = .split m1 m2 → ∃ m1' m2', t.prg = .split m1' m2')

/-- The flag frame of every instruction (10_state.md section 1, the list of what writes each flag): a flag that
differs afterwards is one that the instruction's rule writes; `B` only by `PLP` and `RTI` under `load`. -/
def Obligations.FlagsChangeOnlyByTheirWriters : Prop :=
  ∀ (i : Instr) (s t : State), exec i s = .next t →
    (t.p.n ≠ s.p.n ∨ t.p.z ≠ s.p.z → i.operation ∈
      [.lda, .ldx, .ldy, .lax, .tax, .txa, .tay, .tya, .tsx, .adc, .sbc, .and, .ora, .eor, .bit, .cmp, .cpx, .cpy,
       .inc, .dec, .inx, .iny, .dex, .dey, .asl, .lsr, .rol, .ror, .pla, .plp, .rti, .slo, .rla, .sre, .rra, .dcp,
       .isc]) ∧
    (t.p.c ≠ s.p.c → i.operation ∈
      [.adc, .sbc, .cmp, .cpx, .cpy, .asl, .lsr, .rol, .ror, .clc, .sec, .slo, .rla, .sre, .rra, .dcp, .isc, .plp,
       .rti]) ∧
    (t.p.v ≠ s.p.v → i.operation ∈ [.adc, .sbc, .bit, .clv, .rra, .isc, .plp, .rti]) ∧
    (t.p.d ≠ s.p.d → i.operation ∈ [.cld, .sed, .plp, .rti]) ∧
    (t.p.i ≠ s.p.i → i.operation ∈ [.cli, .sei, .plp, .rti]) ∧
    (t.p.b ≠ s.p.b → i.operation ∈ [.plp, .rti] ∧ s.cfg.pullB = .load)

/-- The register frame of every instruction (10_state.md section 1; the rules of 41 to 46): a register that differs
afterwards is one that the instruction's rule writes. No instruction moves the Ppu's counters or writes the
framebuffer (10_state.md section 3) or a launch parameter; only `HLT` ends the run (notes/assumptions/4.md). -/
def Obligations.RegistersChangeOnlyByTheirWriters : Prop :=
  ∀ (i : Instr) (s t : State), exec i s = .next t →
    (t.a ≠ s.a →
      i.operation ∈ [.lda, .lax, .txa, .tya, .pla, .adc, .sbc, .and, .ora, .eor, .slo, .rla, .sre, .rra, .isc] ∨
      (i.operation ∈ [.asl, .lsr, .rol, .ror] ∧ i.operand = .acc)) ∧
    (t.x ≠ s.x → i.operation ∈ [.ldx, .lax, .tax, .tsx, .inx, .dex]) ∧
    (t.y ≠ s.y → i.operation ∈ [.ldy, .tay, .iny, .dey]) ∧
    (t.sp ≠ s.sp → i.operation ∈ [.txs, .pha, .php, .pla, .plp, .jsr, .rts, .rti]) ∧
    (t.pc ≠ s.pc →
      i.operation ∈ [.bpl, .bmi, .bvc, .bvs, .bcc, .bcs, .bne, .beq, .jmp, .jsr, .rts, .rti]) ∧
    t.ppu.scanline = s.ppu.scanline ∧ t.ppu.cycle = s.ppu.cycle ∧ t.fb = s.fb ∧ t.cfg = s.cfg ∧
    (t.run ≠ s.run → i = .hlt)

/-- The memory frame of the instructions that store nothing: every byte of memory reads as before, the memories
behind the Ppu included, and of the Ppu only what a read of 0x2002 or 0x2007 changes may change (20_memory.md
section 4). -/
def Obligations.FrameOfInstructionsThatStoreNothing : Prop :=
  ∀ (i : Instr) (s t : State), exec i s = .next t → (i.operation ∈ storingOps → i.operand = .acc) →
    i.operation ∉ [.pha, .php, .jsr] →
    (∀ addr, peek addr t = peek addr s) ∧
    t.wram = s.wram ∧ t.ioreg = s.ioreg ∧ t.sram = s.sram ∧ t.prg = s.prg ∧
    t.ppu.oam = s.ppu.oam ∧ t.ppu.nt = s.ppu.nt ∧ t.ppu.pal = s.ppu.pal ∧
    t.ppu.ctrl = s.ppu.ctrl ∧ t.ppu.mask = s.ppu.mask ∧ t.ppu.oamAddr = s.ppu.oamAddr ∧ t.ppu.oamDma = s.ppu.oamDma

/-- The memory frame of the instructions that store to their memory operand, and of the pushes. The address stored to
is the one the meaning resolves: every byte that does not lie in the same cell reads as before. A store to a cell
leaves the Ppu alone; a store to a Ppu register leaves every byte of the CPU's memory alone. The premise `wf` is the
invariant that every step keeps. -/
def Obligations.FrameOfInstructionsThatStore : Prop :=
  (∀ (i : Instr) (m : MemMode) (s s1 t : State) (addr : Word), s.wf = true → i.operation ∈ storingOps →
    i.operand = .mem m → resolve m s = .ok addr s1 → exec i s = .next t →
    (∀ b, cellAt b s ≠ cellAt addr s → peek b t = peek b s) ∧
    (cellAt addr s = none → ∀ b, peek b t = peek b s) ∧
    (cellAt addr s ≠ none → t.ppu = s.ppu) ∧
    (cpuTarget addr = .ppuRegister 0x2004#16 ∨ cpuTarget addr = .ppuRegister 0x2007#16 ∨
      (t.ppu.oam = s.ppu.oam ∧ t.ppu.nt = s.ppu.nt ∧ t.ppu.pal = s.ppu.pal))) ∧
  (∀ (i : Instr) (s t : State), s.wf = true → i.operation ∈ [.pha, .php] → exec i s = .next t →
    t.ppu = s.ppu ∧ ∀ b, cellAt b s ≠ cellAt (stackAddr s.sp) s → peek b t = peek b s) ∧
  (∀ (i : Instr) (s t : State), s.wf = true → i.operation = .jsr → exec i s = .next t →
    t.ppu = s.ppu ∧ ∀ b, cellAt b s ≠ cellAt (stackAddr s.sp) s → cellAt b s ≠ cellAt (stackAddr (s.sp - 1#8)) s →
      peek b t = peek b s)

/-- A step never meets an instruction with no meaning, and the faults it can raise are those of 60_exceptions.md R370
that a running program can meet, with the information R370 gives them: never an index outside a Memory, never an
address outside the nine registers (20_memory.md section 1, 50_ppu.md section 1). The other two it can raise are the
model's own, noProgramLoaded and runEnded (notes/assumptions/1.md, 4.md). A faulting step of a running machine leaves
everything as it was but for `PC`, past exactly the bytes it fetched, and the side effects of reads: nothing is saved
anywhere (60_exceptions.md section 1). So a bus fault of an instruction leaves `PC` past all its bytes. A step after the
end of the run leaves all as it was. (`leftByFault` is beside the step's outcome, notes/assumptions/6.md.) -/
def Obligations.StepFaultsAreTheTaxonomy : Prop :=
  ∀ s : State, (∀ r, step s ≠ .refused r) ∧
    (∀ f, step s = .fault f → f.raisedByStep = true) ∧
    (∀ f, s.run = .running → step s = .fault f →
      ∃ u, ReadEffect s u ∧ leftByFault s = { u with pc := s.pc + BitVec.ofNat 16 (observed s).length }) ∧
    (∀ f, s.run = .running → busRead s.pc s = .fault f → step s = .fault f ∧ leftByFault s = s) ∧
    (∀ i s1 f, s.run = .running → fetchInstr s = .ok i s1 → exec i s1 = .fault f → step s = .fault f ∧
      (leftByFault s).pc = s.pc + BitVec.ofNat 16 (formatLength i.operand.format)) ∧
    (s.run = .halted → step s = .fault .runEnded ∧ leftByFault s = s)

/-- 50_ppu.md section 4: nothing in the block reads the framebuffer. Two states that differ at most in it take steps
to states that differ at most in it, or stop with the same fault. -/
def Obligations.FramebufferIsNeverRead : Prop :=
  ∀ s t : State, SameButFb s t → Result.related SameButFb (step s) (step t)

/-- 70_reset_and_hazards.md section 5, 10_state.md section 5: under `VBLANK_POLICY = none` no Cpu-visible value
depends on the Ppu's counters. Two states that differ at most in the counters and in the framebuffer take steps to
such states, or stop with the same fault. -/
def Obligations.CountersAreInvisible : Prop :=
  ∀ s t : State, s.cfg.vblank = .off → SameButTiming s t → Result.related SameButTiming (step s) (step t)

/-! The CpuBus. -/

/-- 20_memory.md R64 to R68: work RAM with its mirrors, the Ppu register window with its mirrors, the I/O stub, the
OAM-DMA register, save RAM; the same map for reads and writes. A register write's returned byte is discarded. -/
def Obligations.CpuBusMap : Prop :=
  ∀ (addr : Word) (v : Byte) (s : State),
    (addr.toNat < 0x2000 →
      busRead addr s = .ok (s.wram.read (addr.toNat % 0x800)) s ∧
      busWrite addr v s = .ok () { s with wram := s.wram.write (addr.toNat % 0x800) v }) ∧
    (0x2000 ≤ addr.toNat → addr.toNat < 0x4000 →
      busRead addr s = readRegister (0x2000#16 + BitVec.ofNat 16 ((addr.toNat - 0x2000) % 8)) s ∧
      busWrite addr v s =
        (writeRegister (0x2000#16 + BitVec.ofNat 16 ((addr.toNat - 0x2000) % 8)) v s).andThen fun _ t => .ok () t) ∧
    (0x4000 ≤ addr.toNat → addr.toNat < 0x4020 → addr ≠ 0x4014#16 →
      busRead addr s = .ok (s.ioreg.read (addr.toNat - 0x4000)) s ∧
      busWrite addr v s = .ok () { s with ioreg := s.ioreg.write (addr.toNat - 0x4000) v }) ∧
    (addr = 0x4014#16 →
      busRead addr s = readRegister 0x4014#16 s ∧
      busWrite addr v s = (writeRegister 0x4014#16 v s).andThen fun _ t => .ok () t) ∧
    (0x4020 ≤ addr.toNat → addr.toNat < 0x8000 →
      busRead addr s = .ok (s.sram.read (addr.toNat - 0x4020)) s ∧
      busWrite addr v s = .ok () { s with sram := s.sram.write (addr.toNat - 0x4020) v })

/-- 20_memory.md R69, R70, R72: the two bank slots, read in place, written by `PRG_WRITE_POLICY`; for a 16 KB image a
write at 0x8000 + k is read back at 0xC000 + k too. -/
def Obligations.BankReadsAndWrites : Prop :=
  (∀ (addr : Word) (s : State) (m1 m2 : Memory), s.prg = .split m1 m2 →
    (0x8000 ≤ addr.toNat → addr.toNat < 0xC000 → busRead addr s = .ok (m1.read (addr.toNat - 0x8000)) s) ∧
    (0xC000 ≤ addr.toNat → busRead addr s = .ok (m2.read (addr.toNat - 0xC000)) s)) ∧
  (∀ (addr : Word) (s : State) (m : Memory), s.prg = .shared m →
    (0x8000 ≤ addr.toNat → addr.toNat < 0xC000 → busRead addr s = .ok (m.read (addr.toNat - 0x8000)) s) ∧
    (0xC000 ≤ addr.toNat → busRead addr s = .ok (m.read (addr.toNat - 0xC000)) s)) ∧
  (∀ (addr : Word) (v : Byte) (s : State) (m1 m2 : Memory), s.cfg.prgWrite = .store → s.prg = .split m1 m2 →
    (0x8000 ≤ addr.toNat → addr.toNat < 0xC000 →
      busWrite addr v s = .ok () { s with prg := .split (m1.write (addr.toNat - 0x8000) v) m2 }) ∧
    (0xC000 ≤ addr.toNat →
      busWrite addr v s = .ok () { s with prg := .split m1 (m2.write (addr.toNat - 0xC000) v) })) ∧
  (∀ (addr : Word) (v : Byte) (s : State) (m : Memory), s.cfg.prgWrite = .store → s.prg = .shared m →
    (0x8000 ≤ addr.toNat → addr.toNat < 0xC000 →
      busWrite addr v s = .ok () { s with prg := .shared (m.write (addr.toNat - 0x8000) v) }) ∧
    (0xC000 ≤ addr.toNat → busWrite addr v s = .ok () { s with prg := .shared (m.write (addr.toNat - 0xC000) v) })) ∧
  (∀ (addr : Word) (v : Byte) (s : State), 0x8000 ≤ addr.toNat →
    (s.cfg.prgWrite = .ignore → busWrite addr v s = .ok () s) ∧
    (s.cfg.prgWrite = .fault → busWrite addr v s = .fault (.romWrite addr))) ∧
  (∀ (k : Nat) (v : Byte) (s t : State) (m : Memory), s.wf = true → k < 0x4000 → s.prg = .shared m →
    s.cfg.prgWrite = .store → busWrite (BitVec.ofNat 16 (0x8000 + k)) v s = .ok () t →
    busRead (BitVec.ofNat 16 (0xC000 + k)) t = .ok v t)

/-- 20_memory.md sections 1 and 5: a write to a memory cell is read back at every mirror of the cell, and every other
byte of the CPU's memory reads as before. Only a write to a program bank can be ignored (R72); under
`PRG_WRITE_POLICY = ignore` it leaves every byte as before. The premise `wf` is the invariant. -/
def Obligations.WriteIsReadBackAtEveryMirror : Prop :=
  ∀ (addr : Word) (v : Byte) (s : State) (c : Region × Nat), s.wf = true → CanWrite addr s →
    cellAt addr s = some c →
    ∃ t, busWrite addr v s = .ok () t ∧
      ((c.1 = .prg1 ∨ c.1 = .prg2 → s.cfg.prgWrite ≠ .ignore) →
        ∀ b, peek b t = (if cellAt b s = some c then some v else peek b s)) ∧
      ((c.1 = .prg1 ∨ c.1 = .prg2) → s.cfg.prgWrite = .ignore → ∀ b, peek b t = peek b s)

/-- 20_memory.md section 4, 50_ppu.md section 1: a bus read changes at most what a read of 0x2002 or 0x2007 may, and a
read of anything but 0x2002, 0x2005, 0x2006 and 0x2007 changes nothing and finds the byte in place. A read of 0x2002 puts
both toggles back and keeps all else but vblank, and that too under `VBLANK_POLICY = none`; a read of 0x2007 changes only
the buffer and the address; a read of 0x2005 or 0x2006 nothing of the spec's. (The counter of free bytes that a
permissive read of 0x2005 or 0x2006 moves is the model's own, notes/assumptions/9.md.) -/
def Obligations.BusReadSideEffects : Prop :=
  ∀ (addr : Word) (s t : State) (v : Byte), busRead addr s = .ok v t →
    ReadEffect s t ∧
    (∀ r k, cpuTarget addr = .cell r k → t = s ∧ peek addr s = some v) ∧
    (∀ r, cpuTarget addr = .ppuRegister r →
      (r ≠ 0x2002#16 → r ≠ 0x2005#16 → r ≠ 0x2006#16 → r ≠ 0x2007#16 → t = s) ∧
      (r ≠ 0x2007#16 → t.ppu.readBuf = s.ppu.readBuf ∧ t.ppu.vaddr.value = s.ppu.vaddr.value) ∧
      (r ≠ 0x2002#16 → t.ppu.status = s.ppu.status ∧ t.ppu.scroll = s.ppu.scroll ∧
        t.ppu.vaddr.toggle = s.ppu.vaddr.toggle) ∧
      (r = 0x2002#16 → ∃ vblank, t = { s with ppu := { s.ppu with
        status := { s.ppu.status with vblank := vblank }
        scroll := { s.ppu.scroll with toggle := .first }
        vaddr := { s.ppu.vaddr with toggle := .first } } } ∧
        (s.cfg.vblank = .off → vblank = s.ppu.status.vblank)) ∧
      (r = 0x2005#16 ∨ r = 0x2006#16 → t = { s with freeCount := t.freeCount }) ∧
      (r ≠ 0x2005#16 → r ≠ 0x2006#16 → t.freeCount = s.freeCount))

/-- 60_exceptions.md R373, R374 and the bus faults of section 1: a CpuBus access completes exactly when it may, and
where it may not the fault is the one the address calls for. -/
def Obligations.BusAccessCompletesOrFaults : Prop :=
  ∀ (addr : Word) (v : Byte) (s : State),
    (CanRead addr s → ∃ w t, busRead addr s = .ok w t) ∧
    (CanWrite addr s → ∃ t, busWrite addr v s = .ok () t) ∧
    (¬ CanRead addr s → busRead addr s = .fault (readFault addr s)) ∧
    (¬ CanWrite addr s → busWrite addr v s = .fault (writeFault addr s))

/-! The Ppu. -/

/-- 20_memory.md R74 to R77: no target below 0x2000; nametable memory and its mirror; the palette, mirrored every
0x20, with no further aliasing. -/
def Obligations.PpuBusMap : Prop :=
  ∀ (a : PpuAddr) (v : Byte) (s : State),
    (a.toNat < 0x2000 → ppuRead a s = .fault (.ppuBusUnmapped a) ∧ ppuWrite a v s = .fault (.ppuBusUnmapped a)) ∧
    (0x2000 ≤ a.toNat → a.toNat < 0x3000 →
      ppuRead a s = .ok (s.ppu.nt.read (a.toNat - 0x2000)) s ∧
      ppuWrite a v s = .ok () { s with ppu := { s.ppu with nt := s.ppu.nt.write (a.toNat - 0x2000) v } }) ∧
    (0x3000 ≤ a.toNat → a.toNat < 0x3F00 →
      ppuRead a s = .ok (s.ppu.nt.read (a.toNat - 0x3000)) s ∧
      ppuWrite a v s = .ok () { s with ppu := { s.ppu with nt := s.ppu.nt.write (a.toNat - 0x3000) v } }) ∧
    (0x3F00 ≤ a.toNat →
      ppuRead a s = .ok (s.ppu.pal.read ((a.toNat - 0x3F00) % 0x20)) s ∧
      ppuWrite a v s =
        .ok () { s with ppu := { s.ppu with pal := s.ppu.pal.write ((a.toNat - 0x3F00) % 0x20) v } })

/-- 50_ppu.md R302 to R305 with the layouts of R320, R321: a write of PPUCTRL or PPUMASK sets its fields and nothing
else, a read returns the byte last written and changes nothing. -/
def Obligations.ControlAndMaskRegisters : Prop :=
  ∀ (v : Byte) (s : State),
    writeRegister 0x2000#16 v s = .ok v { s with ppu := { s.ppu with ctrl := {
      nmiEnable := v.getLsbD 7, masterSlave := v.getLsbD 6, spriteHeight := v.getLsbD 5
      bgPatternTable := v.getLsbD 4, spritePatternTable := v.getLsbD 3, vramIncrement := v.getLsbD 2
      nametableSelect := BitVec.ofNat 2 (v.toNat % 4) } } } ∧
    writeRegister 0x2001#16 v s = .ok v { s with ppu := { s.ppu with mask := {
      emphasis := BitVec.ofNat 3 (v.toNat / 32), showSprites := v.getLsbD 4, showBackground := v.getLsbD 3
      spriteLeftColumn := v.getLsbD 2, backgroundLeftColumn := v.getLsbD 1, greyscale := v.getLsbD 0 } } } ∧
    (∃ b, readRegister 0x2000#16 s = .ok b s ∧ b.toNat =
      s.ppu.ctrl.nmiEnable.toNat * 128 + s.ppu.ctrl.masterSlave.toNat * 64 + s.ppu.ctrl.spriteHeight.toNat * 32 +
      s.ppu.ctrl.bgPatternTable.toNat * 16 + s.ppu.ctrl.spritePatternTable.toNat * 8 +
      s.ppu.ctrl.vramIncrement.toNat * 4 + s.ppu.ctrl.nametableSelect.toNat) ∧
    (∃ b, readRegister 0x2001#16 s = .ok b s ∧ b.toNat =
      s.ppu.mask.emphasis.toNat * 32 + s.ppu.mask.showSprites.toNat * 16 + s.ppu.mask.showBackground.toNat * 8 +
      s.ppu.mask.spriteLeftColumn.toNat * 4 + s.ppu.mask.backgroundLeftColumn.toNat * 2 +
      s.ppu.mask.greyscale.toNat) ∧
    (∀ t, writeRegister 0x2000#16 v s = .ok v t → readRegister 0x2000#16 t = .ok v t) ∧
    (∀ t, writeRegister 0x2001#16 v s = .ok v t → readRegister 0x2001#16 t = .ok v t)

/-- 50_ppu.md R306, R307, R322: a read of PPUSTATUS gives the three flags and five zeros and puts both toggles back
to `first`, the latches' values kept; a write faults in strict mode and does nothing in permissive mode. The flags
stay as they are under `VBLANK_POLICY = none`. -/
def Obligations.StatusRegister : Prop :=
  (∀ s : State, ∃ b, b.toNat =
      s.ppu.status.vblank.toNat * 128 + s.ppu.status.sprite0Hit.toNat * 64 + s.ppu.status.spriteOverflow.toNat * 32 ∧
    readRegister 0x2002#16 s = .ok b { s with ppu := { s.ppu with
      status := { s.ppu.status with vblank := if s.cfg.vblank = .off then s.ppu.status.vblank else false }
      scroll := { s.ppu.scroll with toggle := .first }
      vaddr := { s.ppu.vaddr with toggle := .first } } }) ∧
  (∀ (v : Byte) (s : State),
    (s.cfg.regAccess = .strict → writeRegister 0x2002#16 v s = .fault (.readOnlyRegisterWrite 0x2002#16)) ∧
    (s.cfg.regAccess = .permissive → writeRegister 0x2002#16 v s = .ok v s))

/-- 50_ppu.md R308, R309, R310, R319: OAMADDR, the indexed OAMDATA, whose write does not move OAMADDR, and OAMDMA, a
plain byte that copies nothing. -/
def Obligations.OamRegisters : Prop :=
  ∀ (v : Byte) (s : State),
    writeRegister 0x2003#16 v s = .ok v { s with ppu := { s.ppu with oamAddr := v } } ∧
    readRegister 0x2003#16 s = .ok s.ppu.oamAddr s ∧
    readRegister 0x2004#16 s = .ok (s.ppu.oam.read s.ppu.oamAddr.toNat) s ∧
    (s.cfg.oamDataIncrement = false → writeRegister 0x2004#16 v s =
      .ok v { s with ppu := { s.ppu with oam := s.ppu.oam.write s.ppu.oamAddr.toNat v } }) ∧
    writeRegister 0x4014#16 v s = .ok v { s with ppu := { s.ppu with oamDma := v } } ∧
    readRegister 0x4014#16 s = .ok s.ppu.oamDma s

/-- 50_ppu.md R311, R312, R314: the two write-twice latches, each with a toggle of its own, the first byte of a pair
the high one; two writes after a status read make the latch hold the pair. -/
def Obligations.WriteTwiceLatches : Prop :=
  (∀ (v : Byte) (s : State),
    writeRegister 0x2005#16 v s = .ok v { s with ppu := { s.ppu with scroll := latched s.ppu.scroll v } } ∧
    writeRegister 0x2006#16 v s = .ok v { s with ppu := { s.ppu with vaddr := latched s.ppu.vaddr v } }) ∧
  (∀ (hi lo b : Byte) (s s1 s2 s3 : State), readRegister 0x2002#16 s = .ok b s1 →
    writeRegister 0x2006#16 hi s1 = .ok hi s2 → writeRegister 0x2006#16 lo s2 = .ok lo s3 →
    s3.ppu.vaddr = { value := hi ++ lo, toggle := .first } ∧ s3.ppu.scroll = s1.ppu.scroll)

/-- The alternatives of the launch parameters that the spec lists and whose detail the model reads into it. Under
`permissive` a read of 0x2005 or 0x2006 answers some byte and changes no state of the spec (50_ppu.md section 1;
notes/assumptions/9.md); under `OAMDATA_WRITE_INCREMENT = true` a write of 0x2004 moves OAMADDR on by one
(notes/assumptions/13.md). -/
def Obligations.PolicyAlternatives : Prop :=
  (∀ (r : Word) (s : State), r = 0x2005#16 ∨ r = 0x2006#16 → s.cfg.regAccess = .permissive →
    ∃ v n, readRegister r s = .ok v { s with freeCount := n }) ∧
  (∀ (v : Byte) (s : State), s.cfg.oamDataIncrement = true → writeRegister 0x2004#16 v s =
    .ok v { s with ppu := { s.ppu with
      oam := s.ppu.oam.write s.ppu.oamAddr.toNat v, oamAddr := s.ppu.oamAddr + 1#8 } })

/-- 50_ppu.md R328: under `VBLANK_POLICY = none` no step changes the three status flags, which are 0 after reset, and
a read of 0x2002 then gives 0x00; under `standard` a PPU clock sets vblank on leaving (241, 0) and clears the three on
leaving (261, 0), and a read of 0x2002 clears vblank once its result is formed. -/
def Obligations.StatusFlagsByPolicy : Prop :=
  (∀ s t : State, s.cfg.vblank = .off → step s = .next t → t.ppu.status = s.ppu.status) ∧
  State.reset.ppu.status = { vblank := false, sprite0Hit := false, spriteOverflow := false } ∧
  (∀ s : State, s.ppu.status = { vblank := false, sprite0Hit := false, spriteOverflow := false } →
    ∃ t, readRegister 0x2002#16 s = .ok 0x00#8 t) ∧
  (∀ s : State, s.cfg.vblank = .standard →
    (s.ppu.scanline = 241 → s.ppu.cycle = 0 → (ppuStep s).ppu.status = { s.ppu.status with vblank := true }) ∧
    (s.ppu.scanline = 261 → s.ppu.cycle = 0 →
      (ppuStep s).ppu.status = { vblank := false, sprite0Hit := false, spriteOverflow := false }) ∧
    (s.ppu.cycle ≠ 0 ∨ (s.ppu.scanline ≠ 241 ∧ s.ppu.scanline ≠ 261) → (ppuStep s).ppu.status = s.ppu.status)) ∧
  (∀ (s t : State) (b : Byte), s.cfg.vblank = .standard → readRegister 0x2002#16 s = .ok b t →
    b.getLsbD 7 = s.ppu.status.vblank ∧ t.ppu.status = { s.ppu.status with vblank := false })

/-- 50_ppu.md R316, R317, R318: a read of 0x2007 gives the palette byte at once at 0x3F00 and above, and the byte
latched before below it; a write goes straight through; either moves the address on, and neither changes anything
when the PpuBus has no target. -/
def Obligations.DataPort : Prop :=
  ∀ (v : Byte) (s : State),
    (0x3F00 ≤ dataAddr s →
      readRegister 0x2007#16 s = .ok (s.ppu.pal.read ((dataAddr s - 0x3F00) % 0x20)) (stepped s) ∧
      writeRegister 0x2007#16 v s = .ok v (stepped
        { s with ppu := { s.ppu with pal := s.ppu.pal.write ((dataAddr s - 0x3F00) % 0x20) v } })) ∧
    (0x2000 ≤ dataAddr s → dataAddr s < 0x3F00 →
      readRegister 0x2007#16 s = .ok s.ppu.readBuf (stepped
        { s with ppu := { s.ppu with readBuf := s.ppu.nt.read ((dataAddr s - 0x2000) % 0x1000) } }) ∧
      writeRegister 0x2007#16 v s = .ok v (stepped
        { s with ppu := { s.ppu with nt := s.ppu.nt.write ((dataAddr s - 0x2000) % 0x1000) v } })) ∧
    (dataAddr s < 0x2000 →
      readRegister 0x2007#16 s = .fault (.ppuBusUnmapped (BitVec.ofNat 14 (dataAddr s))) ∧
      writeRegister 0x2007#16 v s = .fault (.ppuBusUnmapped (BitVec.ofNat 14 (dataAddr s))))

/-- 50_ppu.md R301, 60_exceptions.md R372: an address outside the nine faults, and the CpuBus never presents one. -/
def Obligations.OnlyNineRegisters : Prop :=
  (∀ (addr : Word) (v : Byte) (s : State),
    addr ∉ [0x2000#16, 0x2001#16, 0x2002#16, 0x2003#16, 0x2004#16, 0x2005#16, 0x2006#16, 0x2007#16, 0x4014#16] →
    readRegister addr s = .fault (.invalidPpuRegister addr) ∧
    writeRegister addr v s = .fault (.invalidPpuRegister addr)) ∧
  (∀ (addr a : Word) (v : Byte) (s : State),
    busRead addr s ≠ .fault (.invalidPpuRegister a) ∧ busWrite addr v s ≠ .fault (.invalidPpuRegister a))

/-- 50_ppu.md R323, R324: one PPU clock writes the pixel of the position held before it, on a visible scanline's first
256 cycles only, then moves the counters; it changes nothing else. The status flags stay under
`VBLANK_POLICY = none`; the alternative is in `StatusFlagsByPolicy`. -/
def Obligations.PpuClock : Prop :=
  ∀ s : State, s.cfg.vblank = .off →
    ppuStep s = { s with
      fb := if s.ppu.scanline ≤ 239 ∧ s.ppu.cycle < 256 then
          s.fb.write (s.ppu.scanline * 256 + s.ppu.cycle) (Config.pixel s.ppu.scanline s.ppu.cycle s.ppu)
        else s.fb
      ppu := { s.ppu with
        cycle := if s.ppu.cycle + 1 > 340 then 0 else s.ppu.cycle + 1
        scanline := if s.ppu.cycle + 1 > 340 then
            (if s.ppu.scanline + 1 > 261 then 0 else s.ppu.scanline + 1)
          else s.ppu.scanline } }

/-- 50_ppu.md R325: from (0, 0) the counters after n clocks are n mod 341 and n div 341 mod 262; from any legal
position a frame of 262 * 341 = 89342 clocks comes back to it. -/
def Obligations.CountersAfterAnyNumberOfClocks : Prop :=
  (∀ (n : Nat) (s : State), s.ppu.scanline = 0 → s.ppu.cycle = 0 →
    (ppuSteps n s).ppu.cycle = n % 341 ∧ (ppuSteps n s).ppu.scanline = n / 341 % 262) ∧
  (∀ s : State, s.ppu.scanline ≤ 261 → s.ppu.cycle ≤ 340 →
    (ppuSteps 89342 s).ppu.cycle = s.ppu.cycle ∧ (ppuSteps 89342 s).ppu.scanline = s.ppu.scanline) ∧
  262 * 341 = 89342

/-- 50_ppu.md R326: in one frame from (0, 0) each of the 61440 cells is written exactly once, in index order, the cell
at y * 256 + x at position (y, x); nothing else of the framebuffer is written. -/
def Obligations.FrameWritesEveryCellOnce : Prop :=
  Framebuffer.size = 256 * 240 ∧
  ∀ s : State, s.ppu.scanline = 0 → s.ppu.cycle = 0 →
    (∀ n, n < 89342 → (ppuSteps (n + 1) s).fb =
      if n / 341 ≤ 239 ∧ n % 341 < 256 then
        (ppuSteps n s).fb.write (n / 341 * 256 + n % 341) (Config.pixel (n / 341) (n % 341) (ppuSteps n s).ppu)
      else (ppuSteps n s).fb) ∧
    (∀ y x, y < 240 → x < 256 →
      (ppuSteps 89342 s).fb.read (y * 256 + x) = Config.pixel y x (ppuSteps (y * 341 + x) s).ppu) ∧
    (∀ k, 61440 ≤ k → (ppuSteps 89342 s).fb.read k = s.fb.read k)

/-! Addressing modes. -/

/-- 40_cpu_common.md R135 to R140, R142, R143: the address of each memory format, with its wraps. Resolving never
faults and changes nothing: pointers lie in the zero page, their high byte wrapping within it. -/
def Obligations.AddressOfEachFormat : Prop :=
  ∀ (z : Byte) (w : Word) (s : State),
    resolve (.zp z) s = .ok (BitVec.ofNat 16 z.toNat) s ∧
    resolve (.zpx z) s = .ok (BitVec.ofNat 16 ((z.toNat + s.x.toNat) % 256)) s ∧
    resolve (.zpy z) s = .ok (BitVec.ofNat 16 ((z.toNat + s.y.toNat) % 256)) s ∧
    resolve (.abs w) s = .ok w s ∧
    resolve (.abx w) s = .ok (BitVec.ofNat 16 ((w.toNat + s.x.toNat) % 65536)) s ∧
    resolve (.aby w) s = .ok (BitVec.ofNat 16 ((w.toNat + s.y.toNat) % 65536)) s ∧
    resolve (.izx z) s = .ok (BitVec.ofNat 16
      ((s.wram.read ((z.toNat + s.x.toNat + 1) % 256)).toNat * 256 +
        (s.wram.read ((z.toNat + s.x.toNat) % 256)).toNat)) s ∧
    resolve (.izy z) s = .ok (BitVec.ofNat 16
      (((s.wram.read ((z.toNat + 1) % 256)).toNat * 256 + (s.wram.read z.toNat).toNat + s.y.toNat) % 65536)) s

/-- 40_cpu_common.md R145, R154: what `Load`, `Store` and `Modify` do with a resolved operand, access by access. -/
def Obligations.LoadStoreModify : Prop :=
  (∀ (v : Byte) (s : State), load (.imm v) s = .ok v s) ∧
  (∀ (m : MemMode) (addr : Word) (s s1 : State), resolve m s = .ok addr s1 →
    load (.mem m) s = busRead addr s1 ∧ (∀ v, store m v s = busWrite addr v s1)) ∧
  (∀ (f : Byte → Byte × Bool) (s : State), Machine.modify .acc f s = .ok (f s.a) { s with a := (f s.a).1 }) ∧
  (∀ (f : Byte → Byte × Bool) (m : MemMode) (addr : Word) (old : Byte) (s s1 s2 : State),
    resolve m s = .ok addr s1 → busRead addr s1 = .ok old s2 →
    (∀ t, busWrite addr (f old).1 s2 = .ok () t → Machine.modify (.mem m) f s = .ok (f old) t) ∧
    (∀ e, busWrite addr (f old).1 s2 = .fault e → Machine.modify (.mem m) f s = .fault e)) ∧
  (∀ (f : Byte → Byte × Bool) (m : MemMode) (addr : Word) (e : Fault) (s s1 : State),
    resolve m s = .ok addr s1 → busRead addr s1 = .fault e → Machine.modify (.mem m) f s = .fault e)

/-! The instructions. Each statement names the opcode bytes of its operations and says what `exec` answers for every
form of each. -/

/-- 41_load_store_transfer.md R170, R171, R172, 46_undocumented.md R280: the byte of the operand goes to the register,
`Z` and `N` follow it, nothing else changes but by the read. -/
def Obligations.LoadInstructions : Prop :=
  Encodes .lda [(0xA9#8, .imm), (0xA5#8, .zp), (0xB5#8, .zpx), (0xAD#8, .abs), (0xBD#8, .abx), (0xB9#8, .aby),
    (0xA1#8, .izx), (0xB1#8, .izy)] ∧
  Encodes .ldx [(0xA2#8, .imm), (0xA6#8, .zp), (0xB6#8, .zpy), (0xAE#8, .abs), (0xBE#8, .aby)] ∧
  Encodes .ldy [(0xA0#8, .imm), (0xA4#8, .zp), (0xB4#8, .zpx), (0xAC#8, .abs), (0xBC#8, .abx)] ∧
  Encodes .lax [(0xA7#8, .zp), (0xB7#8, .zpy), (0xAF#8, .abs), (0xBF#8, .aby), (0xA3#8, .izx), (0xB3#8, .izy)] ∧
  ∀ i : Instr,
    (i.operation = .lda → ReadsOperand i fun v t => { t with a := v, p := znOf v t.p }) ∧
    (i.operation = .ldx → ReadsOperand i fun v t => { t with x := v, p := znOf v t.p }) ∧
    (i.operation = .ldy → ReadsOperand i fun v t => { t with y := v, p := znOf v t.p }) ∧
    (i.operation = .lax → ReadsOperand i fun v t => { t with a := v, x := v, p := znOf v t.p })

/-- 41_load_store_transfer.md R173, R174, R175, 46_undocumented.md R281: the register's byte is written to the address,
with no read and no flag changed. -/
def Obligations.StoreInstructions : Prop :=
  Encodes .sta [(0x85#8, .zp), (0x95#8, .zpx), (0x8D#8, .abs), (0x9D#8, .abx), (0x99#8, .aby), (0x81#8, .izx),
    (0x91#8, .izy)] ∧
  Encodes .stx [(0x86#8, .zp), (0x96#8, .zpy), (0x8E#8, .abs)] ∧
  Encodes .sty [(0x84#8, .zp), (0x94#8, .zpx), (0x8C#8, .abs)] ∧
  Encodes .aax [(0x87#8, .zp), (0x97#8, .zpy), (0x8F#8, .abs), (0x83#8, .izx)] ∧
  ∀ i : Instr,
    (i.operation = .sta → StoresByte i fun s => s.a) ∧
    (i.operation = .stx → StoresByte i fun s => s.x) ∧
    (i.operation = .sty → StoresByte i fun s => s.y) ∧
    (i.operation = .aax → StoresByte i fun s => s.a &&& s.x)

/-- 41_load_store_transfer.md R176 to R181: the transfers; `TXS` alone leaves the flags. -/
def Obligations.TransferInstructions : Prop :=
  Encodes .tax [(0xAA#8, .imp)] ∧
  Encodes .txa [(0x8A#8, .imp)] ∧
  Encodes .tay [(0xA8#8, .imp)] ∧
  Encodes .tya [(0x98#8, .imp)] ∧
  Encodes .tsx [(0xBA#8, .imp)] ∧
  Encodes .txs [(0x9A#8, .imp)] ∧
  ∀ s : State,
    exec .tax s = .next { s with x := s.a, p := znOf s.a s.p } ∧
    exec .txa s = .next { s with a := s.x, p := znOf s.x s.p } ∧
    exec .tay s = .next { s with y := s.a, p := znOf s.a s.p } ∧
    exec .tya s = .next { s with a := s.y, p := znOf s.y s.p } ∧
    exec .tsx s = .next { s with x := s.sp, p := znOf s.sp s.p } ∧
    exec .txs s = .next { s with sp := s.x }

/-- 42_arith_logic.md R190, R191, R206, 46_undocumented.md R291: add and subtract with carry, in integers; the decimal
flag plays no part. -/
def Obligations.AddAndSubtract : Prop :=
  Encodes .adc [(0x69#8, .imm), (0x65#8, .zp), (0x75#8, .zpx), (0x6D#8, .abs), (0x7D#8, .abx), (0x79#8, .aby),
    (0x61#8, .izx), (0x71#8, .izy)] ∧
  Encodes .sbc [(0xE9#8, .imm), (0xEB#8, .imm), (0xE5#8, .zp), (0xF5#8, .zpx), (0xED#8, .abs), (0xFD#8, .abx),
    (0xF9#8, .aby), (0xE1#8, .izx), (0xF1#8, .izy)] ∧
  ∀ i : Instr,
    (i.operation = .adc → ReadsOperand i fun m t => addedTo m t.p.c t) ∧
    (i.operation = .sbc → ReadsOperand i fun m t => subtractedFrom m t.p.c t) ∧
    (∀ (m : Byte) (t : State), subtractedFrom m t.p.c t = addedTo (m ^^^ 0xFF#8) t.p.c t)

/-- 42_arith_logic.md R192 to R195: the bitwise operations on `A`, and `BIT`, which changes flags only. -/
def Obligations.BitwiseInstructions : Prop :=
  Encodes .and [(0x29#8, .imm), (0x25#8, .zp), (0x35#8, .zpx), (0x2D#8, .abs), (0x3D#8, .abx), (0x39#8, .aby),
    (0x21#8, .izx), (0x31#8, .izy)] ∧
  Encodes .ora [(0x09#8, .imm), (0x05#8, .zp), (0x15#8, .zpx), (0x0D#8, .abs), (0x1D#8, .abx), (0x19#8, .aby),
    (0x01#8, .izx), (0x11#8, .izy)] ∧
  Encodes .eor [(0x49#8, .imm), (0x45#8, .zp), (0x55#8, .zpx), (0x4D#8, .abs), (0x5D#8, .abx), (0x59#8, .aby),
    (0x41#8, .izx), (0x51#8, .izy)] ∧
  Encodes .bit [(0x24#8, .zp), (0x2C#8, .abs)] ∧
  ∀ i : Instr,
    (i.operation = .and → ReadsOperand i fun m t => { t with a := t.a &&& m, p := znOf (t.a &&& m) t.p }) ∧
    (i.operation = .ora → ReadsOperand i fun m t => { t with a := t.a ||| m, p := znOf (t.a ||| m) t.p }) ∧
    (i.operation = .eor → ReadsOperand i fun m t => { t with a := t.a ^^^ m, p := znOf (t.a ^^^ m) t.p }) ∧
    (i.operation = .bit → ReadsOperand i fun m t => { t with p := { t.p with
      z := decide (t.a &&& m = 0#8), n := m.getLsbD 7, v := m.getLsbD 6 } })

/-- 42_arith_logic.md R196, R197, R198, R207: the compares write `C`, `Z` and `N` and no register. -/
def Obligations.CompareInstructions : Prop :=
  Encodes .cmp [(0xC9#8, .imm), (0xC5#8, .zp), (0xD5#8, .zpx), (0xCD#8, .abs), (0xDD#8, .abx), (0xD9#8, .aby),
    (0xC1#8, .izx), (0xD1#8, .izy)] ∧
  Encodes .cpx [(0xE0#8, .imm), (0xE4#8, .zp), (0xEC#8, .abs)] ∧
  Encodes .cpy [(0xC0#8, .imm), (0xC4#8, .zp), (0xCC#8, .abs)] ∧
  ∀ i : Instr,
    (i.operation = .cmp → ReadsOperand i fun m t => comparedWith t.a m t) ∧
    (i.operation = .cpx → ReadsOperand i fun m t => comparedWith t.x m t) ∧
    (i.operation = .cpy → ReadsOperand i fun m t => comparedWith t.y m t)

/-- 42_arith_logic.md R199, R200: `INC` and `DEC` of a memory byte; `C` and `V` stay. -/
def Obligations.MemoryIncrementAndDecrement : Prop :=
  Encodes .inc [(0xE6#8, .zp), (0xF6#8, .zpx), (0xEE#8, .abs), (0xFE#8, .abx)] ∧
  Encodes .dec [(0xC6#8, .zp), (0xD6#8, .zpx), (0xCE#8, .abs), (0xDE#8, .abx)] ∧
  ∀ i : Instr,
    (i.operation = .inc → ModifiesMemory i (fun _ old => BitVec.ofNat 8 ((old.toNat + 1) % 256))
      fun _ old t => { t with p := znOf (BitVec.ofNat 8 ((old.toNat + 1) % 256)) t.p }) ∧
    (i.operation = .dec → ModifiesMemory i (fun _ old => BitVec.ofNat 8 ((old.toNat + 255) % 256))
      fun _ old t => { t with p := znOf (BitVec.ofNat 8 ((old.toNat + 255) % 256)) t.p })

/-- 42_arith_logic.md R201 to R204: `INX`, `INY`, `DEX`, `DEY`, modulo 256. -/
def Obligations.RegisterIncrementAndDecrement : Prop :=
  Encodes .inx [(0xE8#8, .imp)] ∧
  Encodes .iny [(0xC8#8, .imp)] ∧
  Encodes .dex [(0xCA#8, .imp)] ∧
  Encodes .dey [(0x88#8, .imp)] ∧
  ∀ s : State,
    (∀ r, r = BitVec.ofNat 8 ((s.x.toNat + 1) % 256) → exec .inx s = .next { s with x := r, p := znOf r s.p }) ∧
    (∀ r, r = BitVec.ofNat 8 ((s.y.toNat + 1) % 256) → exec .iny s = .next { s with y := r, p := znOf r s.p }) ∧
    (∀ r, r = BitVec.ofNat 8 ((s.x.toNat + 255) % 256) → exec .dex s = .next { s with x := r, p := znOf r s.p }) ∧
    (∀ r, r = BitVec.ofNat 8 ((s.y.toNat + 255) % 256) → exec .dey s = .next { s with y := r, p := znOf r s.p })

/-- 43_shift_rotate.md R220 to R224: the shifts of `A` and of a memory byte, in numbers. -/
def Obligations.ShiftsAndRotates : Prop :=
  Encodes .asl [(0x0A#8, .acc), (0x06#8, .zp), (0x16#8, .zpx), (0x0E#8, .abs), (0x1E#8, .abx)] ∧
  Encodes .lsr [(0x4A#8, .acc), (0x46#8, .zp), (0x56#8, .zpx), (0x4E#8, .abs), (0x5E#8, .abx)] ∧
  Encodes .rol [(0x2A#8, .acc), (0x26#8, .zp), (0x36#8, .zpx), (0x2E#8, .abs), (0x3E#8, .abx)] ∧
  Encodes .ror [(0x6A#8, .acc), (0x66#8, .zp), (0x76#8, .zpx), (0x6E#8, .abs), (0x7E#8, .abx)] ∧
  ∀ i : Instr, i.operation ∈ [.asl, .lsr, .rol, .ror] →
    (i.operand = .acc → ∀ (s : State) (r : Byte) (c : Bool), (r, c) = shifted i.operation s.p.c s.a →
      exec i s = .next { s with a := r, p := { znOf r s.p with c := c } }) ∧
    ModifiesMemory i (fun c old => (shifted i.operation c old).1)
      fun c old t => { t with p := { znOf (shifted i.operation c old).1 t.p with
        c := (shifted i.operation c old).2 } }

/-- 44_flag_stack.md R230 to R236: each flag operation writes its one flag. -/
def Obligations.FlagInstructions : Prop :=
  Encodes .clc [(0x18#8, .imp)] ∧
  Encodes .sec [(0x38#8, .imp)] ∧
  Encodes .cli [(0x58#8, .imp)] ∧
  Encodes .sei [(0x78#8, .imp)] ∧
  Encodes .clv [(0xB8#8, .imp)] ∧
  Encodes .cld [(0xD8#8, .imp)] ∧
  Encodes .sed [(0xF8#8, .imp)] ∧
  ∀ s : State,
    exec .clc s = .next { s with p := { s.p with c := false } } ∧
    exec .sec s = .next { s with p := { s.p with c := true } } ∧
    exec .cli s = .next { s with p := { s.p with i := false } } ∧
    exec .sei s = .next { s with p := { s.p with i := true } } ∧
    exec .clv s = .next { s with p := { s.p with v := false } } ∧
    exec .cld s = .next { s with p := { s.p with d := false } } ∧
    exec .sed s = .next { s with p := { s.p with d := true } }

/-- 40_cpu_common.md R147, R148, R150, R151, 44_flag_stack.md R237 to R240: pushes and pulls of `A` and of the status
byte, always in work RAM and with the stack pointer wrapping; the pushed status has bits 4 and 5 set; `PHP` then `PLP`
restores every flag but `B` under `load`, and every flag under `keep`. -/
def Obligations.StackInstructions : Prop :=
  Encodes .pha [(0x48#8, .imp)] ∧
  Encodes .pla [(0x68#8, .imp)] ∧
  Encodes .php [(0x08#8, .imp)] ∧
  Encodes .plp [(0x28#8, .imp)] ∧
  (∀ (v : Byte) (s : State),
    push v s = .ok () { s with wram := s.wram.write (stackIndex s.sp) v, sp := s.sp - 1#8 } ∧
    pull s = .ok (stackByte s (s.sp + 1#8)) { s with sp := s.sp + 1#8 } ∧
    s.p.pack = BitVec.ofNat 8 (packedSum s.p) ∧
    (unpackP v s) = { s with p := unpacked s.cfg.pullB v s.p } ∧
    (s.cfg.pullB = .load → (unpackP v s).p.pack = v ||| 0x20#8)) ∧
  (∀ s : State,
    exec .pha s = .next { s with wram := s.wram.write (stackIndex s.sp) s.a, sp := s.sp - 1#8 } ∧
    exec .php s = .next { s with
      wram := s.wram.write (stackIndex s.sp) (BitVec.ofNat 8 (packedSum s.p) ||| 0x10#8), sp := s.sp - 1#8 } ∧
    exec .pla s = .next { s with
      a := stackByte s (s.sp + 1#8), sp := s.sp + 1#8, p := znOf (stackByte s (s.sp + 1#8)) s.p } ∧
    exec .plp s = .next { s with
      sp := s.sp + 1#8, p := unpacked s.cfg.pullB (stackByte s (s.sp + 1#8)) s.p }) ∧
  (∀ s : State, s.wf = true → ∃ t, exec .php s = .next t ∧
    exec .plp t = .next { t with
      sp := s.sp, p := { s.p with b := if s.cfg.pullB = .load then true else s.p.b } })

/-- 44_flag_stack.md R241, 46_undocumented.md R288, R289, R290: the no-operations change nothing once their bytes are
fetched. -/
def Obligations.NoOperations : Prop :=
  Encodes .nop [(0xEA#8, .imp), (0x1A#8, .imp), (0x3A#8, .imp), (0x5A#8, .imp), (0x7A#8, .imp), (0xDA#8, .imp),
    (0xFA#8, .imp)] ∧
  Encodes .skb [(0x80#8, .imm), (0x04#8, .zp), (0x44#8, .zp), (0x64#8, .zp), (0x14#8, .zpx), (0x34#8, .zpx),
    (0x54#8, .zpx), (0x74#8, .zpx), (0xD4#8, .zpx), (0xF4#8, .zpx)] ∧
  Encodes .skw [(0x0C#8, .abs), (0x1C#8, .abx), (0x3C#8, .abx), (0x5C#8, .abx), (0x7C#8, .abx), (0xDC#8, .abx),
    (0xFC#8, .abx)] ∧
  ∀ (i : Instr) (s : State), i.operation ∈ [.nop, .skb, .skw] → exec i s = .next s

/-- 45_control.md R250 to R258: each branch adds its offset to the `PC` past it exactly when its flag holds, modulo
65536, and writes nothing else; it costs 2, and 1 more when taken. -/
def Obligations.BranchInstructions : Prop :=
  Encodes .bpl [(0x10#8, .rel)] ∧
  Encodes .bmi [(0x30#8, .rel)] ∧
  Encodes .bvc [(0x50#8, .rel)] ∧
  Encodes .bvs [(0x70#8, .rel)] ∧
  Encodes .bcc [(0x90#8, .rel)] ∧
  Encodes .bcs [(0xB0#8, .rel)] ∧
  Encodes .bne [(0xD0#8, .rel)] ∧
  Encodes .beq [(0xF0#8, .rel)] ∧
  ∀ (d : Int) (s : State) (i : Instr) (cond : Bool),
    (i, cond) ∈ [(.bpl d, !s.p.n), (.bmi d, s.p.n), (.bvc d, !s.p.v), (.bvs d, s.p.v), (.bcc d, !s.p.c),
      (.bcs d, s.p.c), (.bne d, !s.p.z), (.beq d, s.p.z)] →
    (cond = true → exec i s = .next { s with pc := BitVec.ofInt 16 ((s.pc.toNat : Int) + d) }) ∧
    (cond = false → exec i s = .next s) ∧
    cost i s = some (if cond then 3 else 2)

/-- 45_control.md R259, R260, 40_cpu_common.md R141: `JMP` to the operand, and through a pointer whose high byte stays
in the pointer's page; a fault of a pointer read is its fault. -/
def Obligations.JumpInstructions : Prop :=
  Encodes .jmp [(0x4C#8, .abs), (0x6C#8, .ind)] ∧
  (∀ (addr : Word) (s : State), exec (.jmpAbs addr) s = .next { s with pc := addr }) ∧
  (∀ (p : Word) (s : State),
    (∀ e, busRead p s = .fault e → exec (.jmpInd p) s = .fault e) ∧
    (∀ lo s1, busRead p s = .ok lo s1 →
      (∀ e, busRead ((p &&& 0xFF00#16) ||| ((p + 1#16) &&& 0x00FF#16)) s1 = .fault e →
        exec (.jmpInd p) s = .fault e) ∧
      (∀ hi s2, busRead ((p &&& 0xFF00#16) ||| ((p + 1#16) &&& 0x00FF#16)) s1 = .ok hi s2 →
        exec (.jmpInd p) s = .next { s2 with pc := hi ++ lo })))

/-- 45_control.md R261, R262, 40_cpu_common.md R149: `JSR` pushes the address of its own last byte, high byte first;
`RTS` pulls, low byte first, and adds one; after a `JSR`, `RTS` returns to the instruction after it with `SP` as
before. -/
def Obligations.SubroutineCallAndReturn : Prop :=
  Encodes .jsr [(0x20#8, .abs)] ∧
  Encodes .rts [(0x60#8, .imp)] ∧
  (∀ (w : Word) (s : State),
    push16 w s = .ok () { s with
      wram := (s.wram.write (stackIndex s.sp) (BitVec.ofNat 8 (w.toNat / 256))).write (stackIndex (s.sp - 1#8))
        (BitVec.ofNat 8 (w.toNat % 256))
      sp := s.sp - 2#8 } ∧
    pull16 s = .ok (stackByte s (s.sp + 2#8) ++ stackByte s (s.sp + 1#8)) { s with sp := s.sp + 2#8 } ∧
    exec (.jsr w) s = .next { s with
      wram := (s.wram.write (stackIndex s.sp) (BitVec.ofNat 8 ((s.pc - 1#16).toNat / 256))).write
        (stackIndex (s.sp - 1#8)) (BitVec.ofNat 8 ((s.pc - 1#16).toNat % 256))
      sp := s.sp - 2#8
      pc := w } ∧
    exec .rts s = .next { s with
      sp := s.sp + 2#8, pc := (stackByte s (s.sp + 2#8) ++ stackByte s (s.sp + 1#8)) + 1#16 }) ∧
  (∀ (w : Word) (s : State), s.wf = true → ∃ t, exec (.jsr w) s = .next t ∧
    exec .rts t = .next { t with sp := s.sp, pc := s.pc })

/-- 45_control.md R263: `RTI` pulls the status byte, then `PC`, low byte first, with no `+ 1`. -/
def Obligations.ReturnFromInterrupt : Prop :=
  Encodes .rti [(0x40#8, .imp)] ∧
  ∀ s : State, exec .rti s = .next { s with
    sp := s.sp + 3#8
    p := unpacked s.cfg.pullB (stackByte s (s.sp + 1#8)) s.p
    pc := stackByte s (s.sp + 3#8) ++ stackByte s (s.sp + 2#8) }

/-- 46_undocumented.md R282 to R287: the combined read-modify-writes, one read and one write of the byte, then the
accumulator operation on the modified byte. -/
def Obligations.CombinedReadModifyWrite : Prop :=
  Encodes .slo [(0x07#8, .zp), (0x17#8, .zpx), (0x0F#8, .abs), (0x1F#8, .abx), (0x1B#8, .aby), (0x03#8, .izx),
    (0x13#8, .izy)] ∧
  Encodes .rla [(0x27#8, .zp), (0x37#8, .zpx), (0x2F#8, .abs), (0x3F#8, .abx), (0x3B#8, .aby), (0x23#8, .izx),
    (0x33#8, .izy)] ∧
  Encodes .sre [(0x47#8, .zp), (0x57#8, .zpx), (0x4F#8, .abs), (0x5F#8, .abx), (0x5B#8, .aby), (0x43#8, .izx),
    (0x53#8, .izy)] ∧
  Encodes .rra [(0x67#8, .zp), (0x77#8, .zpx), (0x6F#8, .abs), (0x7F#8, .abx), (0x7B#8, .aby), (0x63#8, .izx),
    (0x73#8, .izy)] ∧
  Encodes .dcp [(0xC7#8, .zp), (0xD7#8, .zpx), (0xCF#8, .abs), (0xDF#8, .abx), (0xDB#8, .aby), (0xC3#8, .izx),
    (0xD3#8, .izy)] ∧
  Encodes .isc [(0xE7#8, .zp), (0xF7#8, .zpx), (0xEF#8, .abs), (0xFF#8, .abx), (0xFB#8, .aby), (0xE3#8, .izx),
    (0xF3#8, .izy)] ∧
  ∀ i : Instr,
    (i.operation = .slo → ModifiesMemory i (fun c old => (shifted .asl c old).1) fun c old t =>
      { t with
        a := t.a ||| (shifted .asl c old).1
        p := { znOf (t.a ||| (shifted .asl c old).1) t.p with c := (shifted .asl c old).2 } }) ∧
    (i.operation = .rla → ModifiesMemory i (fun c old => (shifted .rol c old).1) fun c old t =>
      { t with
        a := t.a &&& (shifted .rol c old).1
        p := { znOf (t.a &&& (shifted .rol c old).1) t.p with c := (shifted .rol c old).2 } }) ∧
    (i.operation = .sre → ModifiesMemory i (fun c old => (shifted .lsr c old).1) fun c old t =>
      { t with
        a := t.a ^^^ (shifted .lsr c old).1
        p := { znOf (t.a ^^^ (shifted .lsr c old).1) t.p with c := (shifted .lsr c old).2 } }) ∧
    (i.operation = .rra → ModifiesMemory i (fun c old => (shifted .ror c old).1) fun c old t =>
      addedTo (shifted .ror c old).1 (shifted .ror c old).2 t) ∧
    (i.operation = .dcp → ModifiesMemory i (fun _ old => BitVec.ofNat 8 ((old.toNat + 255) % 256)) fun _ old t =>
      comparedWith t.a (BitVec.ofNat 8 ((old.toNat + 255) % 256)) t) ∧
    (i.operation = .isc → ModifiesMemory i (fun _ old => BitVec.ofNat 8 ((old.toNat + 1) % 256)) fun _ old t =>
      subtractedFrom (BitVec.ofNat 8 ((old.toNat + 1) % 256)) t.p.c t)

/-- 40_cpu_common.md section 3, 60_exceptions.md section 1: each of the 227 instructions completes exactly when its
accesses can, in every state and with every operand; where one cannot, the instruction ends in the bus fault of the first
that cannot: the read of the operand's byte, the write of it in the state after that read, the first or the second read
of an indirect pointer. Such a fault is one of the taxonomy or noProgramLoaded, the model's own for a bank before an image
is loaded (notes/assumptions/1.md). -/
def Obligations.EveryInstructionCompletesOrFaults : Prop :=
  ∀ (i : Instr) (s : State),
    (AccessesCanComplete i s → ∃ t, exec i s = .next t) ∧
    (¬ AccessesCanComplete i s → ∃ f, exec i s = .fault f ∧ f.raisedByAccess = true) ∧
    (∀ m addr s1, i.operand = .mem m → resolve m s = .ok addr s1 →
      (i.operation ∈ readingOps → ¬ CanRead addr s1 → exec i s = .fault (readFault addr s1)) ∧
      (i.operation ∈ readingOps → i.operation ∈ storingOps → ∀ v s2, busRead addr s1 = .ok v s2 →
        ¬ CanWrite addr s2 → exec i s = .fault (writeFault addr s2)) ∧
      (i.operation ∉ readingOps → i.operation ∈ storingOps → ¬ CanWrite addr s1 →
        exec i s = .fault (writeFault addr s1))) ∧
    (∀ p, i.operand = .ind p →
      (¬ CanRead p s → exec i s = .fault (readFault p s)) ∧
      (∀ v s1, busRead p s = .ok v s1 → ¬ CanRead ((p &&& 0xFF00#16) ||| ((p + 1#16) &&& 0x00FF#16)) s1 →
        exec i s = .fault (readFault ((p &&& 0xFF00#16) ||| ((p + 1#16) &&& 0x00FF#16)) s1)))

/-- 40_cpu_common.md R153, 70_reset_and_hazards.md R416: the cost of each instruction by operation and format, one more
for a taken branch and no other dynamic term; no cost for the halt sentinel or for an unmapped byte. -/
def Obligations.CostOfEachInstruction : Prop :=
  (∀ (i : Instr) (s : State), i ≠ .hlt →
    baseCycles i.opcode = some (cyclesByFormat i.operation i.operand.format) ∧
    cost i s = some (cyclesByFormat i.operation i.operand.format +
      if branchTaken i.operation s.p then 1 else 0)) ∧
  (∀ s : State, cost .hlt s = none) ∧
  (∀ b ∈ unmappedBytes, baseCycles b = none)

/-- 55_console.md section 5: the trace line shows the state before the instruction, its bytes and the packed status.
The observer is invoked after each fetched byte, `PC` already past it and the other registers as before the step, and
after the completed instruction with the registers it leaves; the bytes are those of the instruction, also where its
opcode is unmapped, or those before a fetch that faults. A faulting step has no invocation after the fetched bytes. After
the run has ended there is neither. The line and the invocations as records, the registers they show, a line and an
invocation for the halt sentinel and no line for an unmapped byte are the model's choices (notes/assumptions/14.md). -/
def Obligations.TraceLineShowsTheStateBefore : Prop :=
  (∀ (s : State) (i : Instr) (s1 : State), s.run = .running → fetchInstr s = .ok i s1 → observed s = encode i ∧
    ∃ line, traceLine s = some line ∧ line.pc = s.pc ∧ line.bytes = encode i ∧ line.a = s.a ∧ line.x = s.x ∧
      line.y = s.y ∧ line.p = BitVec.ofNat 8 (packedSum s.p) ∧ line.sp = s.sp) ∧
  (∀ (s : State) (f : Fault), fetchInstr s = .fault f → traceLine s = none) ∧
  (∀ (s u : State) (b : Byte), s.run = .running → busRead s.pc s = .ok b u → b ∈ unmappedBytes → observed s = [b]) ∧
  (∀ (s : State) (f : Fault), busRead s.pc s = .fault f → observed s = []) ∧
  (∀ (s u : State) (i : Instr) (f : Fault), s.run = .running → 2 ≤ formatLength i.operand.format →
    fetch s = .ok i.opcode u → fetch u = .fault f → observed s = [i.opcode]) ∧
  (∀ (s u v : State) (i : Instr) (lo : Byte) (f : Fault), s.run = .running → formatLength i.operand.format = 3 →
    fetch s = .ok i.opcode u → fetch u = .ok lo v → fetch v = .fault f → observed s = [i.opcode, lo]) ∧
  (∀ s : State, ∃ last : List ObserverEvent,
    observerEvents s = (observed s).mapIdx (fun k b => .fetched b
      { pc := s.pc + BitVec.ofNat 16 (k + 1), a := s.a, x := s.x, y := s.y, sp := s.sp, p := s.p }) ++ last ∧
    (∀ t, step s = .next t →
      last = [.completed { pc := t.pc, a := t.a, x := t.x, y := t.y, sp := t.sp, p := t.p }]) ∧
    (∀ f, step s = .fault f → last = [])) ∧
  (∀ s : State, s.run = .halted → observed s = [] ∧ observerEvents s = [] ∧ traceLine s = none)

end
end

