-- ==== Sys2Proof/Laws/State.lean ====
section
/-! SUPPORT. One lemma for each field of each named update of the state, true by `rfl`, so that no later proof
unfolds an update. -/

namespace Sys2Proof.Machine

@[simp] theorem State.setA_a (v : Byte) (s : State) : (s.setA v).a = v := rfl
@[simp] theorem State.setA_x (v : Byte) (s : State) : (s.setA v).x = s.x := rfl
@[simp] theorem State.setA_y (v : Byte) (s : State) : (s.setA v).y = s.y := rfl
@[simp] theorem State.setA_pc (v : Byte) (s : State) : (s.setA v).pc = s.pc := rfl
@[simp] theorem State.setA_sp (v : Byte) (s : State) : (s.setA v).sp = s.sp := rfl
@[simp] theorem State.setA_p (v : Byte) (s : State) : (s.setA v).p = s.p := rfl
@[simp] theorem State.setA_wram (v : Byte) (s : State) : (s.setA v).wram = s.wram := rfl
@[simp] theorem State.setA_ioreg (v : Byte) (s : State) : (s.setA v).ioreg = s.ioreg := rfl
@[simp] theorem State.setA_sram (v : Byte) (s : State) : (s.setA v).sram = s.sram := rfl
@[simp] theorem State.setA_prg (v : Byte) (s : State) : (s.setA v).prg = s.prg := rfl
@[simp] theorem State.setA_ppu (v : Byte) (s : State) : (s.setA v).ppu = s.ppu := rfl
@[simp] theorem State.setA_fb (v : Byte) (s : State) : (s.setA v).fb = s.fb := rfl
@[simp] theorem State.setA_cfg (v : Byte) (s : State) : (s.setA v).cfg = s.cfg := rfl
@[simp] theorem State.setA_run (v : Byte) (s : State) : (s.setA v).run = s.run := rfl
@[simp] theorem State.setA_freeCount (v : Byte) (s : State) : (s.setA v).freeCount = s.freeCount := rfl

@[simp] theorem State.setX_a (v : Byte) (s : State) : (s.setX v).a = s.a := rfl
@[simp] theorem State.setX_x (v : Byte) (s : State) : (s.setX v).x = v := rfl
@[simp] theorem State.setX_y (v : Byte) (s : State) : (s.setX v).y = s.y := rfl
@[simp] theorem State.setX_pc (v : Byte) (s : State) : (s.setX v).pc = s.pc := rfl
@[simp] theorem State.setX_sp (v : Byte) (s : State) : (s.setX v).sp = s.sp := rfl
@[simp] theorem State.setX_p (v : Byte) (s : State) : (s.setX v).p = s.p := rfl
@[simp] theorem State.setX_wram (v : Byte) (s : State) : (s.setX v).wram = s.wram := rfl
@[simp] theorem State.setX_ioreg (v : Byte) (s : State) : (s.setX v).ioreg = s.ioreg := rfl
@[simp] theorem State.setX_sram (v : Byte) (s : State) : (s.setX v).sram = s.sram := rfl
@[simp] theorem State.setX_prg (v : Byte) (s : State) : (s.setX v).prg = s.prg := rfl
@[simp] theorem State.setX_ppu (v : Byte) (s : State) : (s.setX v).ppu = s.ppu := rfl
@[simp] theorem State.setX_fb (v : Byte) (s : State) : (s.setX v).fb = s.fb := rfl
@[simp] theorem State.setX_cfg (v : Byte) (s : State) : (s.setX v).cfg = s.cfg := rfl
@[simp] theorem State.setX_run (v : Byte) (s : State) : (s.setX v).run = s.run := rfl
@[simp] theorem State.setX_freeCount (v : Byte) (s : State) : (s.setX v).freeCount = s.freeCount := rfl

@[simp] theorem State.setY_a (v : Byte) (s : State) : (s.setY v).a = s.a := rfl
@[simp] theorem State.setY_x (v : Byte) (s : State) : (s.setY v).x = s.x := rfl
@[simp] theorem State.setY_y (v : Byte) (s : State) : (s.setY v).y = v := rfl
@[simp] theorem State.setY_pc (v : Byte) (s : State) : (s.setY v).pc = s.pc := rfl
@[simp] theorem State.setY_sp (v : Byte) (s : State) : (s.setY v).sp = s.sp := rfl
@[simp] theorem State.setY_p (v : Byte) (s : State) : (s.setY v).p = s.p := rfl
@[simp] theorem State.setY_wram (v : Byte) (s : State) : (s.setY v).wram = s.wram := rfl
@[simp] theorem State.setY_ioreg (v : Byte) (s : State) : (s.setY v).ioreg = s.ioreg := rfl
@[simp] theorem State.setY_sram (v : Byte) (s : State) : (s.setY v).sram = s.sram := rfl
@[simp] theorem State.setY_prg (v : Byte) (s : State) : (s.setY v).prg = s.prg := rfl
@[simp] theorem State.setY_ppu (v : Byte) (s : State) : (s.setY v).ppu = s.ppu := rfl
@[simp] theorem State.setY_fb (v : Byte) (s : State) : (s.setY v).fb = s.fb := rfl
@[simp] theorem State.setY_cfg (v : Byte) (s : State) : (s.setY v).cfg = s.cfg := rfl
@[simp] theorem State.setY_run (v : Byte) (s : State) : (s.setY v).run = s.run := rfl
@[simp] theorem State.setY_freeCount (v : Byte) (s : State) : (s.setY v).freeCount = s.freeCount := rfl

@[simp] theorem State.setPc_a (v : Word) (s : State) : (s.setPc v).a = s.a := rfl
@[simp] theorem State.setPc_x (v : Word) (s : State) : (s.setPc v).x = s.x := rfl
@[simp] theorem State.setPc_y (v : Word) (s : State) : (s.setPc v).y = s.y := rfl
@[simp] theorem State.setPc_pc (v : Word) (s : State) : (s.setPc v).pc = v := rfl
@[simp] theorem State.setPc_sp (v : Word) (s : State) : (s.setPc v).sp = s.sp := rfl
@[simp] theorem State.setPc_p (v : Word) (s : State) : (s.setPc v).p = s.p := rfl
@[simp] theorem State.setPc_wram (v : Word) (s : State) : (s.setPc v).wram = s.wram := rfl
@[simp] theorem State.setPc_ioreg (v : Word) (s : State) : (s.setPc v).ioreg = s.ioreg := rfl
@[simp] theorem State.setPc_sram (v : Word) (s : State) : (s.setPc v).sram = s.sram := rfl
@[simp] theorem State.setPc_prg (v : Word) (s : State) : (s.setPc v).prg = s.prg := rfl
@[simp] theorem State.setPc_ppu (v : Word) (s : State) : (s.setPc v).ppu = s.ppu := rfl
@[simp] theorem State.setPc_fb (v : Word) (s : State) : (s.setPc v).fb = s.fb := rfl
@[simp] theorem State.setPc_cfg (v : Word) (s : State) : (s.setPc v).cfg = s.cfg := rfl
@[simp] theorem State.setPc_run (v : Word) (s : State) : (s.setPc v).run = s.run := rfl
@[simp] theorem State.setPc_freeCount (v : Word) (s : State) : (s.setPc v).freeCount = s.freeCount := rfl

@[simp] theorem State.setSp_a (v : Byte) (s : State) : (s.setSp v).a = s.a := rfl
@[simp] theorem State.setSp_x (v : Byte) (s : State) : (s.setSp v).x = s.x := rfl
@[simp] theorem State.setSp_y (v : Byte) (s : State) : (s.setSp v).y = s.y := rfl
@[simp] theorem State.setSp_pc (v : Byte) (s : State) : (s.setSp v).pc = s.pc := rfl
@[simp] theorem State.setSp_sp (v : Byte) (s : State) : (s.setSp v).sp = v := rfl
@[simp] theorem State.setSp_p (v : Byte) (s : State) : (s.setSp v).p = s.p := rfl
@[simp] theorem State.setSp_wram (v : Byte) (s : State) : (s.setSp v).wram = s.wram := rfl
@[simp] theorem State.setSp_ioreg (v : Byte) (s : State) : (s.setSp v).ioreg = s.ioreg := rfl
@[simp] theorem State.setSp_sram (v : Byte) (s : State) : (s.setSp v).sram = s.sram := rfl
@[simp] theorem State.setSp_prg (v : Byte) (s : State) : (s.setSp v).prg = s.prg := rfl
@[simp] theorem State.setSp_ppu (v : Byte) (s : State) : (s.setSp v).ppu = s.ppu := rfl
@[simp] theorem State.setSp_fb (v : Byte) (s : State) : (s.setSp v).fb = s.fb := rfl
@[simp] theorem State.setSp_cfg (v : Byte) (s : State) : (s.setSp v).cfg = s.cfg := rfl
@[simp] theorem State.setSp_run (v : Byte) (s : State) : (s.setSp v).run = s.run := rfl
@[simp] theorem State.setSp_freeCount (v : Byte) (s : State) : (s.setSp v).freeCount = s.freeCount := rfl

@[simp] theorem State.setP_a (v : Flags) (s : State) : (s.setP v).a = s.a := rfl
@[simp] theorem State.setP_x (v : Flags) (s : State) : (s.setP v).x = s.x := rfl
@[simp] theorem State.setP_y (v : Flags) (s : State) : (s.setP v).y = s.y := rfl
@[simp] theorem State.setP_pc (v : Flags) (s : State) : (s.setP v).pc = s.pc := rfl
@[simp] theorem State.setP_sp (v : Flags) (s : State) : (s.setP v).sp = s.sp := rfl
@[simp] theorem State.setP_p (v : Flags) (s : State) : (s.setP v).p = v := rfl
@[simp] theorem State.setP_wram (v : Flags) (s : State) : (s.setP v).wram = s.wram := rfl
@[simp] theorem State.setP_ioreg (v : Flags) (s : State) : (s.setP v).ioreg = s.ioreg := rfl
@[simp] theorem State.setP_sram (v : Flags) (s : State) : (s.setP v).sram = s.sram := rfl
@[simp] theorem State.setP_prg (v : Flags) (s : State) : (s.setP v).prg = s.prg := rfl
@[simp] theorem State.setP_ppu (v : Flags) (s : State) : (s.setP v).ppu = s.ppu := rfl
@[simp] theorem State.setP_fb (v : Flags) (s : State) : (s.setP v).fb = s.fb := rfl
@[simp] theorem State.setP_cfg (v : Flags) (s : State) : (s.setP v).cfg = s.cfg := rfl
@[simp] theorem State.setP_run (v : Flags) (s : State) : (s.setP v).run = s.run := rfl
@[simp] theorem State.setP_freeCount (v : Flags) (s : State) : (s.setP v).freeCount = s.freeCount := rfl

@[simp] theorem State.setPpu_a (v : Ppu) (s : State) : (s.setPpu v).a = s.a := rfl
@[simp] theorem State.setPpu_x (v : Ppu) (s : State) : (s.setPpu v).x = s.x := rfl
@[simp] theorem State.setPpu_y (v : Ppu) (s : State) : (s.setPpu v).y = s.y := rfl
@[simp] theorem State.setPpu_pc (v : Ppu) (s : State) : (s.setPpu v).pc = s.pc := rfl
@[simp] theorem State.setPpu_sp (v : Ppu) (s : State) : (s.setPpu v).sp = s.sp := rfl
@[simp] theorem State.setPpu_p (v : Ppu) (s : State) : (s.setPpu v).p = s.p := rfl
@[simp] theorem State.setPpu_wram (v : Ppu) (s : State) : (s.setPpu v).wram = s.wram := rfl
@[simp] theorem State.setPpu_ioreg (v : Ppu) (s : State) : (s.setPpu v).ioreg = s.ioreg := rfl
@[simp] theorem State.setPpu_sram (v : Ppu) (s : State) : (s.setPpu v).sram = s.sram := rfl
@[simp] theorem State.setPpu_prg (v : Ppu) (s : State) : (s.setPpu v).prg = s.prg := rfl
@[simp] theorem State.setPpu_ppu (v : Ppu) (s : State) : (s.setPpu v).ppu = v := rfl
@[simp] theorem State.setPpu_fb (v : Ppu) (s : State) : (s.setPpu v).fb = s.fb := rfl
@[simp] theorem State.setPpu_cfg (v : Ppu) (s : State) : (s.setPpu v).cfg = s.cfg := rfl
@[simp] theorem State.setPpu_run (v : Ppu) (s : State) : (s.setPpu v).run = s.run := rfl
@[simp] theorem State.setPpu_freeCount (v : Ppu) (s : State) : (s.setPpu v).freeCount = s.freeCount := rfl

@[simp] theorem setZN_a (v : Byte) (s : State) : (setZN v s).a = s.a := rfl
@[simp] theorem setZN_x (v : Byte) (s : State) : (setZN v s).x = s.x := rfl
@[simp] theorem setZN_y (v : Byte) (s : State) : (setZN v s).y = s.y := rfl
@[simp] theorem setZN_pc (v : Byte) (s : State) : (setZN v s).pc = s.pc := rfl
@[simp] theorem setZN_sp (v : Byte) (s : State) : (setZN v s).sp = s.sp := rfl
@[simp] theorem setZN_wram (v : Byte) (s : State) : (setZN v s).wram = s.wram := rfl
@[simp] theorem setZN_ioreg (v : Byte) (s : State) : (setZN v s).ioreg = s.ioreg := rfl
@[simp] theorem setZN_sram (v : Byte) (s : State) : (setZN v s).sram = s.sram := rfl
@[simp] theorem setZN_prg (v : Byte) (s : State) : (setZN v s).prg = s.prg := rfl
@[simp] theorem setZN_ppu (v : Byte) (s : State) : (setZN v s).ppu = s.ppu := rfl
@[simp] theorem setZN_fb (v : Byte) (s : State) : (setZN v s).fb = s.fb := rfl
@[simp] theorem setZN_cfg (v : Byte) (s : State) : (setZN v s).cfg = s.cfg := rfl
@[simp] theorem setZN_run (v : Byte) (s : State) : (setZN v s).run = s.run := rfl
@[simp] theorem setZN_freeCount (v : Byte) (s : State) : (setZN v s).freeCount = s.freeCount := rfl

@[simp] theorem setC_a (c : Bool) (s : State) : (setC c s).a = s.a := rfl
@[simp] theorem setC_x (c : Bool) (s : State) : (setC c s).x = s.x := rfl
@[simp] theorem setC_y (c : Bool) (s : State) : (setC c s).y = s.y := rfl
@[simp] theorem setC_pc (c : Bool) (s : State) : (setC c s).pc = s.pc := rfl
@[simp] theorem setC_sp (c : Bool) (s : State) : (setC c s).sp = s.sp := rfl
@[simp] theorem setC_wram (c : Bool) (s : State) : (setC c s).wram = s.wram := rfl
@[simp] theorem setC_ioreg (c : Bool) (s : State) : (setC c s).ioreg = s.ioreg := rfl
@[simp] theorem setC_sram (c : Bool) (s : State) : (setC c s).sram = s.sram := rfl
@[simp] theorem setC_prg (c : Bool) (s : State) : (setC c s).prg = s.prg := rfl
@[simp] theorem setC_ppu (c : Bool) (s : State) : (setC c s).ppu = s.ppu := rfl
@[simp] theorem setC_fb (c : Bool) (s : State) : (setC c s).fb = s.fb := rfl
@[simp] theorem setC_cfg (c : Bool) (s : State) : (setC c s).cfg = s.cfg := rfl
@[simp] theorem setC_run (c : Bool) (s : State) : (setC c s).run = s.run := rfl
@[simp] theorem setC_freeCount (c : Bool) (s : State) : (setC c s).freeCount = s.freeCount := rfl

@[simp] theorem unpackP_a (b : Byte) (s : State) : (unpackP b s).a = s.a := rfl
@[simp] theorem unpackP_x (b : Byte) (s : State) : (unpackP b s).x = s.x := rfl
@[simp] theorem unpackP_y (b : Byte) (s : State) : (unpackP b s).y = s.y := rfl
@[simp] theorem unpackP_pc (b : Byte) (s : State) : (unpackP b s).pc = s.pc := rfl
@[simp] theorem unpackP_sp (b : Byte) (s : State) : (unpackP b s).sp = s.sp := rfl
@[simp] theorem unpackP_wram (b : Byte) (s : State) : (unpackP b s).wram = s.wram := rfl
@[simp] theorem unpackP_ioreg (b : Byte) (s : State) : (unpackP b s).ioreg = s.ioreg := rfl
@[simp] theorem unpackP_sram (b : Byte) (s : State) : (unpackP b s).sram = s.sram := rfl
@[simp] theorem unpackP_prg (b : Byte) (s : State) : (unpackP b s).prg = s.prg := rfl
@[simp] theorem unpackP_ppu (b : Byte) (s : State) : (unpackP b s).ppu = s.ppu := rfl
@[simp] theorem unpackP_fb (b : Byte) (s : State) : (unpackP b s).fb = s.fb := rfl
@[simp] theorem unpackP_cfg (b : Byte) (s : State) : (unpackP b s).cfg = s.cfg := rfl
@[simp] theorem unpackP_run (b : Byte) (s : State) : (unpackP b s).run = s.run := rfl
@[simp] theorem unpackP_freeCount (b : Byte) (s : State) : (unpackP b s).freeCount = s.freeCount := rfl

@[simp] theorem setZN_p (v : Byte) (s : State) :
    (setZN v s).p = { s.p with z := decide (v = 0#8), n := v.getLsbD 7 } := rfl
@[simp] theorem setC_p (c : Bool) (s : State) : (setC c s).p = { s.p with c := c } := rfl
@[simp] theorem unpackP_p (b : Byte) (s : State) : (unpackP b s).p = s.p.unpack s.cfg.pullB b := rfl

@[simp] theorem advanceVaddr_a (s : State) : (advanceVaddr s).a = s.a := rfl
@[simp] theorem advanceVaddr_x (s : State) : (advanceVaddr s).x = s.x := rfl
@[simp] theorem advanceVaddr_y (s : State) : (advanceVaddr s).y = s.y := rfl
@[simp] theorem advanceVaddr_pc (s : State) : (advanceVaddr s).pc = s.pc := rfl
@[simp] theorem advanceVaddr_sp (s : State) : (advanceVaddr s).sp = s.sp := rfl
@[simp] theorem advanceVaddr_p (s : State) : (advanceVaddr s).p = s.p := rfl
@[simp] theorem advanceVaddr_wram (s : State) : (advanceVaddr s).wram = s.wram := rfl
@[simp] theorem advanceVaddr_ioreg (s : State) : (advanceVaddr s).ioreg = s.ioreg := rfl
@[simp] theorem advanceVaddr_sram (s : State) : (advanceVaddr s).sram = s.sram := rfl
@[simp] theorem advanceVaddr_prg (s : State) : (advanceVaddr s).prg = s.prg := rfl
@[simp] theorem advanceVaddr_fb (s : State) : (advanceVaddr s).fb = s.fb := rfl
@[simp] theorem advanceVaddr_cfg (s : State) : (advanceVaddr s).cfg = s.cfg := rfl
@[simp] theorem advanceVaddr_run (s : State) : (advanceVaddr s).run = s.run := rfl
@[simp] theorem advanceVaddr_freeCount (s : State) : (advanceVaddr s).freeCount = s.freeCount := rfl

@[simp] theorem ppuStep_a (s : State) : (ppuStep s).a = s.a := rfl
@[simp] theorem ppuStep_x (s : State) : (ppuStep s).x = s.x := rfl
@[simp] theorem ppuStep_y (s : State) : (ppuStep s).y = s.y := rfl
@[simp] theorem ppuStep_pc (s : State) : (ppuStep s).pc = s.pc := rfl
@[simp] theorem ppuStep_sp (s : State) : (ppuStep s).sp = s.sp := rfl
@[simp] theorem ppuStep_p (s : State) : (ppuStep s).p = s.p := rfl
@[simp] theorem ppuStep_wram (s : State) : (ppuStep s).wram = s.wram := rfl
@[simp] theorem ppuStep_ioreg (s : State) : (ppuStep s).ioreg = s.ioreg := rfl
@[simp] theorem ppuStep_sram (s : State) : (ppuStep s).sram = s.sram := rfl
@[simp] theorem ppuStep_prg (s : State) : (ppuStep s).prg = s.prg := rfl
@[simp] theorem ppuStep_cfg (s : State) : (ppuStep s).cfg = s.cfg := rfl
@[simp] theorem ppuStep_run (s : State) : (ppuStep s).run = s.run := rfl
@[simp] theorem ppuStep_freeCount (s : State) : (ppuStep s).freeCount = s.freeCount := rfl

@[simp] theorem ppuSteps_a (n : Nat) (s : State) : (ppuSteps n s).a = s.a := by
  induction n generalizing s with
  | zero => rfl
  | succ n ih => simp [ppuSteps, ih]
@[simp] theorem ppuSteps_x (n : Nat) (s : State) : (ppuSteps n s).x = s.x := by
  induction n generalizing s with
  | zero => rfl
  | succ n ih => simp [ppuSteps, ih]
@[simp] theorem ppuSteps_y (n : Nat) (s : State) : (ppuSteps n s).y = s.y := by
  induction n generalizing s with
  | zero => rfl
  | succ n ih => simp [ppuSteps, ih]
@[simp] theorem ppuSteps_pc (n : Nat) (s : State) : (ppuSteps n s).pc = s.pc := by
  induction n generalizing s with
  | zero => rfl
  | succ n ih => simp [ppuSteps, ih]
@[simp] theorem ppuSteps_sp (n : Nat) (s : State) : (ppuSteps n s).sp = s.sp := by
  induction n generalizing s with
  | zero => rfl
  | succ n ih => simp [ppuSteps, ih]
@[simp] theorem ppuSteps_p (n : Nat) (s : State) : (ppuSteps n s).p = s.p := by
  induction n generalizing s with
  | zero => rfl
  | succ n ih => simp [ppuSteps, ih]
@[simp] theorem ppuSteps_wram (n : Nat) (s : State) : (ppuSteps n s).wram = s.wram := by
  induction n generalizing s with
  | zero => rfl
  | succ n ih => simp [ppuSteps, ih]
@[simp] theorem ppuSteps_ioreg (n : Nat) (s : State) : (ppuSteps n s).ioreg = s.ioreg := by
  induction n generalizing s with
  | zero => rfl
  | succ n ih => simp [ppuSteps, ih]
@[simp] theorem ppuSteps_sram (n : Nat) (s : State) : (ppuSteps n s).sram = s.sram := by
  induction n generalizing s with
  | zero => rfl
  | succ n ih => simp [ppuSteps, ih]
@[simp] theorem ppuSteps_prg (n : Nat) (s : State) : (ppuSteps n s).prg = s.prg := by
  induction n generalizing s with
  | zero => rfl
  | succ n ih => simp [ppuSteps, ih]
@[simp] theorem ppuSteps_cfg (n : Nat) (s : State) : (ppuSteps n s).cfg = s.cfg := by
  induction n generalizing s with
  | zero => rfl
  | succ n ih => simp [ppuSteps, ih]
@[simp] theorem ppuSteps_run (n : Nat) (s : State) : (ppuSteps n s).run = s.run := by
  induction n generalizing s with
  | zero => rfl
  | succ n ih => simp [ppuSteps, ih]
@[simp] theorem ppuSteps_freeCount (n : Nat) (s : State) : (ppuSteps n s).freeCount = s.freeCount := by
  induction n generalizing s with
  | zero => rfl
  | succ n ih => simp [ppuSteps, ih]

@[simp] theorem Access.andThen_ok {α β : Type} (v : α) (s : State) (k : α → State → Access β) :
    (Access.ok v s).andThen k = k v s := rfl
@[simp] theorem Access.andThen_fault {α β : Type} (f : Fault) (k : α → State → Access β) :
    (Access.fault f).andThen k = .fault f := rfl
@[simp] theorem Access.conclude_ok {α : Type} (v : α) (s : State) (k : α → State → Result) :
    (Access.ok v s).conclude k = k v s := rfl
@[simp] theorem Access.conclude_fault {α : Type} (f : Fault) (k : α → State → Result) :
    (Access.fault f).conclude k = .fault f := rfl

/-- What it takes for a chain of two accesses to succeed. -/
theorem Access.andThen_eq_ok {α β : Type} {r : Access α} {k : α → State → Access β} {w : β} {t : State} :
    r.andThen k = .ok w t ↔ ∃ v s, r = .ok v s ∧ k v s = .ok w t := by
  cases r <;> simp

/-- What it takes for a chain of two accesses to fault. -/
theorem Access.andThen_eq_fault {α β : Type} {r : Access α} {k : α → State → Access β} {f : Fault} :
    r.andThen k = .fault f ↔ r = .fault f ∨ ∃ v s, r = .ok v s ∧ k v s = .fault f := by
  cases r <;> simp

/-- What it takes for an instruction that ends on an access to answer a next state. -/
theorem Access.conclude_eq_next {α : Type} {r : Access α} {k : α → State → Result} {t : State} :
    r.conclude k = .next t ↔ ∃ v s, r = .ok v s ∧ k v s = .next t := by
  cases r <;> simp [conclude, raise]

/-- What it takes for an instruction that ends on an access to fault. -/
theorem Access.conclude_eq_fault {α : Type} {r : Access α} {k : α → State → Result} {f : Fault} :
    r.conclude k = .fault f ↔ r = .fault f ∨ ∃ v s, r = .ok v s ∧ k v s = .fault f := by
  cases r <;> simp [conclude, raise]

end Sys2Proof.Machine
end

