-- ==== Sys2Proof/Laws/Ops.lean ====
section
/-! SUPPORT. What each shared operation can do when it succeeds: reads change only what R81 of 20_memory.md lists,
accesses keep the Cpu, and a step is one of two cases. Later proofs cite these and do not unfold the operations. -/

namespace Sys2Proof.Machine

theorem ReadEffect.refl (s : State) : ReadEffect s s :=
  ⟨s.ppu.status.vblank, s.ppu.scroll.toggle, s.ppu.vaddr, s.ppu.readBuf, s.freeCount, rfl⟩

theorem ReadEffect.trans {s t u : State} (h : ReadEffect s t) (h' : ReadEffect t u) : ReadEffect s u := by
  obtain ⟨_, _, _, _, _, rfl⟩ := h
  obtain ⟨st, sc, va, rb, n, rfl⟩ := h'
  exact ⟨st, sc, va, rb, n, rfl⟩

theorem KeepsCpu.refl (s : State) : KeepsCpu s s := ⟨rfl, rfl, rfl, rfl, rfl, rfl, rfl, rfl, rfl, rfl, rfl⟩

theorem KeepsCpu.trans {s t u : State} (h : KeepsCpu s t) (h' : KeepsCpu t u) : KeepsCpu s u :=
  ⟨h'.a.trans h.a, h'.x.trans h.x, h'.y.trans h.y, h'.pc.trans h.pc, h'.sp.trans h.sp, h'.p.trans h.p,
    h'.fb.trans h.fb, h'.cfg.trans h.cfg, h'.run.trans h.run, h'.scanline.trans h.scanline, h'.cycle.trans h.cycle⟩

theorem ReadEffect.keepsCpu {s t : State} (h : ReadEffect s t) : KeepsCpu s t := by
  obtain ⟨_, _, _, _, _, rfl⟩ := h
  exact ⟨rfl, rfl, rfl, rfl, rfl, rfl, rfl, rfl, rfl, rfl, rfl⟩

/-- Reads leave every region's Memory as it was. -/
theorem ReadEffect.memOf {s t : State} (h : ReadEffect s t) (r : Region) : t.memOf r = s.memOf r := by
  obtain ⟨_, _, _, _, _, rfl⟩ := h
  cases r <;> rfl

theorem readCell_eq_ok {r : Region} {i : Nat} {s t : State} {v : Byte} :
    readCell r i s = .ok v t ↔ i < r.size ∧ (∃ m, s.memOf r = some m ∧ m.read i = v) ∧ s = t := by
  unfold readCell
  split
  · split <;> simp_all
  · simp_all

theorem writeCell_eq_ok {r : Region} {i : Nat} {s t : State} {v : Byte} {u : Unit} :
    writeCell r i v s = .ok u t ↔
      i < r.size ∧ ∃ m, s.memOf r = some m ∧ s.setMem r (m.write i v) = t := by
  unfold writeCell
  split
  · split <;> simp_all
  · simp_all

/-- Replacing a region's Memory keeps the Cpu. -/
theorem State.setMem_keepsCpu (r : Region) (m : Memory) (s : State) : KeepsCpu s (s.setMem r m) := by
  cases r <;> exact ⟨rfl, rfl, rfl, rfl, rfl, rfl, rfl, rfl, rfl, rfl, rfl⟩

theorem writeCell_keepsCpu {r : Region} {i : Nat} {s t : State} {v : Byte} {u : Unit}
    (h : writeCell r i v s = .ok u t) : KeepsCpu s t := by
  obtain ⟨_, m, _, rfl⟩ := writeCell_eq_ok.mp h
  exact State.setMem_keepsCpu r _ s

theorem readCell_effect {r : Region} {i : Nat} {s t : State} {v : Byte} (h : readCell r i s = .ok v t) :
    ReadEffect s t := (readCell_eq_ok.mp h).2.2 ▸ ReadEffect.refl s

theorem ppuRead_effect {addr : PpuAddr} {s t : State} {v : Byte} (h : ppuRead addr s = .ok v t) :
    ReadEffect s t := by
  unfold ppuRead at h
  split at h
  · exact readCell_effect h
  · cases h

theorem ppuWrite_keepsCpu {addr : PpuAddr} {s t : State} {v : Byte} {u : Unit}
    (h : ppuWrite addr v s = .ok u t) : KeepsCpu s t := by
  unfold ppuWrite at h
  split at h
  · exact writeCell_keepsCpu h
  · cases h

theorem advanceVaddr_effect (s : State) : ReadEffect s (advanceVaddr s) :=
  ⟨s.ppu.status.vblank, s.ppu.scroll.toggle, _, s.ppu.readBuf, s.freeCount, rfl⟩

theorem readData_effect {s t : State} {v : Byte} (h : readData s = .ok v t) : ReadEffect s t := by
  obtain ⟨fresh, s1, h1, h2⟩ := Access.andThen_eq_ok.mp h
  refine (ppuRead_effect h1).trans ?_
  split at h2 <;> cases h2
  · exact advanceVaddr_effect s1
  · exact ⟨s1.ppu.status.vblank, s1.ppu.scroll.toggle, _, fresh, s1.freeCount, rfl⟩

theorem readWriteOnly_effect {addr : Word} {s t : State} {v : Byte} (h : readWriteOnly addr s = .ok v t) :
    ReadEffect s t := by
  unfold readWriteOnly at h
  split at h <;> cases h
  exact ⟨s.ppu.status.vblank, s.ppu.scroll.toggle, s.ppu.vaddr, s.ppu.readBuf, _, rfl⟩

/-- A read of 0x2002 touches the toggles and, by `VBLANK_POLICY`, vblank. -/
theorem readStatus_effect {s t : State} {v : Byte} (h : readStatus s = .ok v t) : ReadEffect s t := by
  cases h
  cases hc : s.cfg.vblank with
  | off => exact ⟨s.ppu.status.vblank, .first, s.ppu.vaddr.resetToggle, s.ppu.readBuf, s.freeCount, by simp only; rfl⟩
  | standard => exact ⟨false, .first, s.ppu.vaddr.resetToggle, s.ppu.readBuf, s.freeCount, by simp only; rfl⟩

theorem readRegister_effect {addr : Word} {s t : State} {v : Byte} (h : readRegister addr s = .ok v t) :
    ReadEffect s t := by
  unfold readRegister at h
  split at h
  · cases h
  · cases h; exact ReadEffect.refl s
  · cases h; exact ReadEffect.refl s
  · exact readStatus_effect h
  · cases h; exact ReadEffect.refl s
  · exact readCell_effect h
  · exact readWriteOnly_effect h
  · exact readWriteOnly_effect h
  · exact readData_effect h
  · cases h; exact ReadEffect.refl s

/-- A CpuBus read changes only what R81 lists. -/
theorem busRead_effect {addr : Word} {s t : State} {v : Byte} (h : busRead addr s = .ok v t) :
    ReadEffect s t := by
  unfold busRead at h
  split at h
  · exact readCell_effect h
  · exact readRegister_effect h

/-- A CpuBus read of a memory region changes nothing and finds what `peek` finds. -/
theorem busRead_cell {addr : Word} {s t : State} {v : Byte} {r : Region} {i : Nat}
    (hc : cpuTarget addr = .cell r i) (h : busRead addr s = .ok v t) : t = s ∧ peek addr s = some v := by
  simp only [busRead, hc] at h
  obtain ⟨_, ⟨m, hm, hv⟩, rfl⟩ := readCell_eq_ok.mp h
  simp [peek, hc, hm, hv]

theorem writeData_keepsCpu {v : Byte} {s t : State} {u : Unit} (h : writeData v s = .ok u t) : KeepsCpu s t := by
  obtain ⟨_, s1, h1, h2⟩ := Access.andThen_eq_ok.mp h
  cases h2
  exact (ppuWrite_keepsCpu h1).trans (advanceVaddr_effect s1).keepsCpu

theorem writeOamData_keepsCpu {v : Byte} {s t : State} {u : Unit} (h : writeOamData v s = .ok u t) :
    KeepsCpu s t := by
  obtain ⟨_, s1, h1, h2⟩ := Access.andThen_eq_ok.mp h
  cases h2
  refine (writeCell_keepsCpu h1).trans ?_
  split
  · exact ⟨rfl, rfl, rfl, rfl, rfl, rfl, rfl, rfl, rfl, rfl, rfl⟩
  · exact KeepsCpu.refl s1

theorem writeRegister_keepsCpu {addr : Word} {v w : Byte} {s t : State} (h : writeRegister addr v s = .ok w t) :
    KeepsCpu s t := by
  unfold writeRegister at h
  split at h
  · cases h
  · cases h; exact ⟨rfl, rfl, rfl, rfl, rfl, rfl, rfl, rfl, rfl, rfl, rfl⟩
  · cases h; exact ⟨rfl, rfl, rfl, rfl, rfl, rfl, rfl, rfl, rfl, rfl, rfl⟩
  · obtain ⟨_, s1, h1, h2⟩ := Access.andThen_eq_ok.mp h
    cases h2
    unfold writeStatus at h1
    split at h1 <;> cases h1
    exact KeepsCpu.refl s
  · cases h; exact ⟨rfl, rfl, rfl, rfl, rfl, rfl, rfl, rfl, rfl, rfl, rfl⟩
  · obtain ⟨_, s1, h1, h2⟩ := Access.andThen_eq_ok.mp h
    cases h2; exact writeOamData_keepsCpu h1
  · cases h; exact ⟨rfl, rfl, rfl, rfl, rfl, rfl, rfl, rfl, rfl, rfl, rfl⟩
  · cases h; exact ⟨rfl, rfl, rfl, rfl, rfl, rfl, rfl, rfl, rfl, rfl, rfl⟩
  · obtain ⟨_, s1, h1, h2⟩ := Access.andThen_eq_ok.mp h
    cases h2; exact writeData_keepsCpu h1
  · cases h; exact ⟨rfl, rfl, rfl, rfl, rfl, rfl, rfl, rfl, rfl, rfl, rfl⟩

theorem writeBank_keepsCpu {addr : Word} {r : Region} {i : Nat} {v : Byte} {s t : State} {u : Unit}
    (h : writeBank addr r i v s = .ok u t) : KeepsCpu s t := by
  unfold writeBank at h
  split at h
  · exact writeCell_keepsCpu h
  · cases h; exact KeepsCpu.refl s
  · cases h

/-- A CpuBus write keeps the Cpu, the framebuffer, the counters, the parameters. -/
theorem busWrite_keepsCpu {addr : Word} {v : Byte} {s t : State} {u : Unit} (h : busWrite addr v s = .ok u t) :
    KeepsCpu s t := by
  unfold busWrite at h
  split at h
  · exact writeBank_keepsCpu h
  · exact writeBank_keepsCpu h
  · exact writeCell_keepsCpu h
  · obtain ⟨_, s1, h1, h2⟩ := Access.andThen_eq_ok.mp h
    cases h2; exact writeRegister_keepsCpu h1

theorem readPointer_effect {lo hi : Word} {s t : State} {w : Word} (h : readPointer lo hi s = .ok w t) :
    ReadEffect s t := by
  obtain ⟨_, s1, h1, h2⟩ := Access.andThen_eq_ok.mp h
  obtain ⟨_, s2, h2, h3⟩ := Access.andThen_eq_ok.mp h2
  cases h3
  exact (busRead_effect h1).trans (busRead_effect h2)

/-- Resolving a memory operand changes only what its pointer reads may. -/
theorem resolve_effect {m : MemMode} {s t : State} {addr : Word} (h : resolve m s = .ok addr t) :
    ReadEffect s t := by
  cases m with
  | izx z => exact readPointer_effect h
  | izy z =>
    obtain ⟨_, s1, h1, h2⟩ := Access.andThen_eq_ok.mp h
    cases h2; exact readPointer_effect h1
  | _ => cases h; exact ReadEffect.refl s

/-- Loading an operand changes only what its reads may. -/
theorem load_effect {src : Src} {s t : State} {v : Byte} (h : load src s = .ok v t) : ReadEffect s t := by
  cases src with
  | imm w => cases h; exact ReadEffect.refl s
  | mem m =>
    obtain ⟨_, s1, h1, h2⟩ := Access.andThen_eq_ok.mp h
    exact (resolve_effect h1).trans (busRead_effect h2)

theorem store_keepsCpu {m : MemMode} {v : Byte} {s t : State} {u : Unit} (h : store m v s = .ok u t) :
    KeepsCpu s t := by
  obtain ⟨_, s1, h1, h2⟩ := Access.andThen_eq_ok.mp h
  exact (resolve_effect h1).keepsCpu.trans (busWrite_keepsCpu h2)

/-- A read-modify-write of a memory byte keeps the Cpu and answers what `f` gave on the byte read. -/
theorem modify_mem_keepsCpu {m : MemMode} {f : Byte → Byte × Bool} {s t : State} {r : Byte × Bool}
    (h : modify (.mem m) f s = .ok r t) : KeepsCpu s t ∧ ∃ old, r = f old := by
  obtain ⟨_, s1, h1, k1⟩ := Access.andThen_eq_ok.mp h
  obtain ⟨old, s2, h2, k2⟩ := Access.andThen_eq_ok.mp k1
  obtain ⟨_, s3, h3, k3⟩ := Access.andThen_eq_ok.mp k2
  cases k3
  exact ⟨((resolve_effect h1).trans (busRead_effect h2)).keepsCpu.trans (busWrite_keepsCpu h3), old, rfl⟩

/-- A fetch is a bus read at `PC`, and `PC` moved on. -/
theorem fetch_eq_ok {s t : State} {b : Byte} (h : fetch s = .ok b t) :
    ∃ u, busRead s.pc s = .ok b u ∧ ReadEffect s u ∧ t = u.setPc (s.pc + 1) := by
  obtain ⟨_, u, h1, h2⟩ := Access.andThen_eq_ok.mp h
  cases h2
  have he := busRead_effect h1
  exact ⟨u, h1, he, by rw [he.keepsCpu.pc]⟩

/-- The two ways in which a step answers a next state: a costed instruction and its PPU clocks, or the halt. -/
theorem step_eq_next {s t : State} (h : step s = .next t) :
    s.run = .running ∧ ∃ i s1 s2, fetchInstr s = .ok i s1 ∧ exec i s1 = .next s2 ∧
      ((∃ n, cost i s1 = some n ∧ t = ppuSteps (Config.ppuStepsPerCycle * n) s2) ∨ (cost i s1 = none ∧ t = s2)) := by
  unfold step at h
  split at h
  · rename_i hr
    refine ⟨hr, ?_⟩
    unfold cpuStep at h
    split at h
    · cases h
    · rename_i i s1 hf
      split at h
      · cases h
      · cases h
      · rename_i s2 he
        refine ⟨i, s1, s2, hf, he, ?_⟩
        split at h <;> cases h
        · rename_i n hc; exact .inl ⟨n, hc, rfl⟩
        · rename_i hc; exact .inr ⟨hc, rfl⟩
  · cases h

end Sys2Proof.Machine
end

