-- ==== Sys2Proof/Laws/Cpu.lean ====
section
/-! SUPPORT. What the fetches of one step can do, what the observer is told, and what a fault leaves
(40_cpu_common.md R131; 55_console.md R356; 60_exceptions.md R382). -/

namespace Sys2Proof.Machine

@[simp] theorem State.registers_pc (s : State) : s.registers.pc = s.pc := rfl
@[simp] theorem State.registers_a (s : State) : s.registers.a = s.a := rfl
@[simp] theorem State.registers_x (s : State) : s.registers.x = s.x := rfl
@[simp] theorem State.registers_y (s : State) : s.registers.y = s.y := rfl
@[simp] theorem State.registers_sp (s : State) : s.registers.sp = s.sp := rfl
@[simp] theorem State.registers_p (s : State) : s.registers.p = s.p := rfl

/-- `t` is `s` after `n` fetches: `PC` moved on by `n`, and the side effects of reads. -/
def Fetched (n : Nat) (s t : State) : Prop :=
  ∃ u, ReadEffect s u ∧ t = u.setPc (s.pc + BitVec.ofNat 16 n)

theorem Fetched.zero (s : State) : Fetched 0 s s := ⟨s, .refl s, by simp [State.setPc]⟩

theorem Fetched.fetch {n : Nat} {s t v : State} {b : Byte} (h : Fetched n s t) (hf : fetch t = .ok b v) :
    Fetched (n + 1) s v := by
  obtain ⟨_, ⟨_, _, _, _, _, rfl⟩, rfl⟩ := h
  obtain ⟨_, _, ⟨st, sc, va, rb, k, rfl⟩, rfl⟩ := fetch_eq_ok hf
  refine ⟨_, ⟨st, sc, va, rb, k, rfl⟩, ?_⟩
  simp only [State.setPc]
  rw [BitVec.add_assoc]
  congr 2
  apply BitVec.eq_of_toNat_eq
  simp

/-- Reads after the fetches change nothing that `Fetched` fixes. -/
theorem Fetched.read {n : Nat} {s t v : State} (h : Fetched n s t) (hr : ReadEffect t v) : Fetched n s v := by
  obtain ⟨_, ⟨_, _, _, _, _, rfl⟩, rfl⟩ := h
  obtain ⟨st, sc, va, rb, k, rfl⟩ := hr
  exact ⟨_, ⟨st, sc, va, rb, k, rfl⟩, rfl⟩

theorem fetchesFrom_state {k : Nat} {s : State} : ∀ {n : Nat} {t : State}, Fetched k s t →
    ∀ {j : Nat} {f : Byte × State}, (fetchesFrom n t)[j]? = some f → Fetched (k + j + 1) s f.2
  | 0, _, _, _, _, hj => by simp [fetchesFrom] at hj
  | n + 1, t, h, j, f, hj => by
    unfold fetchesFrom at hj
    split at hj
    · rename_i b v hv
      cases j with
      | zero => simp at hj; subst hj; exact h.fetch hv
      | succ j =>
        have := fetchesFrom_state (n := n) (h.fetch hv) (by simpa using hj)
        rwa [show k + (j + 1) + 1 = k + 1 + j + 1 by omega]
    · simp at hj

/-- The state after fetch `j` of a step: `j + 1` bytes fetched and nothing else but the side effects of reads. -/
theorem stepFetches_state {s : State} {j : Nat} {f : Byte × State} (h : (stepFetches s)[j]? = some f) :
    Fetched (j + 1) s f.2 := by
  unfold stepFetches at h
  split at h
  · simp at h
  · split at h
    · simp at h
    · rename_i b v hv
      have hl := (Fetched.zero s).fetch hv
      cases j with
      | zero => simp at h; subst h; exact hl
      | succ j =>
        have := fetchesFrom_state hl (by simpa using h)
        rwa [show j + 1 + 1 = 0 + 1 + j + 1 by omega]

theorem stepFetches_halted {s : State} (h : s.run = .halted) : stepFetches s = [] := by simp [stepFetches, h]

/-- The accesses before a faulting one are reads. -/
theorem accessesBeforeFault_effect (i : Instr) (s : State) : ReadEffect s (accessesBeforeFault i s) := by
  unfold accessesBeforeFault
  simp only
  split
  · split
    · exact .refl s
    · split
      · rename_i h; exact load_effect (src := .mem _) h
      · exact .refl s
  · split
    · rename_i h; exact busRead_effect h
    · exact .refl s
  · exact .refl s

/-- PPU clocks change no register of the Cpu. -/
theorem ppuSteps_registers (n : Nat) (s : State) : (ppuSteps n s).registers = s.registers := by
  induction n generalizing s with
  | zero => rfl
  | succ n ih => exact ih _

/-- A faulting step has no invocation for a completed instruction. -/
theorem completion_of_fault {s : State} {f : Fault} (h : step s = .fault f) : completion s = [] := by
  unfold completion
  cases hr : s.run with
  | halted => rfl
  | running =>
    simp only [step, hr] at h
    cases hc : cpuStep s with
    | cycles n t => rw [hc] at h; cases h
    | halt t => rw [hc] at h; cases h
    | fault g => rfl
    | refused g => rfl

end Sys2Proof.Machine
end

