-- ==== Sys2Proof/Laws/Exec.lean ====
section
/-! SUPPORT. Everything an instruction can do when `exec` answers a next state, said once: `Effect i s t` has a case
for each kind of instruction, and `exec_effect` gives the case. Later proofs take the cases of `Effect` apart and do
not unfold `exec`. -/

namespace Sys2Proof.Machine

/-- What a reading instruction does with its operand's byte `v` in the state after the read. -/
inductive ReadsTo : Operation → Byte → State → State → Prop where
  | lda (v : Byte) (u : State) : ReadsTo .lda v u (setZN v (u.setA v))
  | ldx (v : Byte) (u : State) : ReadsTo .ldx v u (setZN v (u.setX v))
  | ldy (v : Byte) (u : State) : ReadsTo .ldy v u (setZN v (u.setY v))
  | lax (v : Byte) (u : State) : ReadsTo .lax v u (setZN v ((u.setA v).setX v))
  | adc (v : Byte) (u : State) : ReadsTo .adc v u (addWithCarry v u)
  | sbc (v : Byte) (u : State) : ReadsTo .sbc v u (addWithCarry (v ^^^ 0xFF#8) u)
  | and (v : Byte) (u : State) : ReadsTo .and v u (bitwise (fun a m => a &&& m) v u)
  | ora (v : Byte) (u : State) : ReadsTo .ora v u (bitwise (fun a m => a ||| m) v u)
  | eor (v : Byte) (u : State) : ReadsTo .eor v u (bitwise (fun a m => a ^^^ m) v u)
  | bit (v : Byte) (u : State) : ReadsTo .bit v u (bitTest v u)
  | cmp (v : Byte) (u : State) : ReadsTo .cmp v u (compareWith u.a v u)
  | cpx (v : Byte) (u : State) : ReadsTo .cpx v u (compareWith u.x v u)
  | cpy (v : Byte) (u : State) : ReadsTo .cpy v u (compareWith u.y v u)

/-- The byte that a storing instruction writes. -/
inductive StoresOf : Operation → State → Byte → Prop where
  | sta (s : State) : StoresOf .sta s s.a
  | stx (s : State) : StoresOf .stx s s.x
  | sty (s : State) : StoresOf .sty s s.y
  | aax (s : State) : StoresOf .aax s (s.a &&& s.x)

/-- The function by which a modifying instruction changes its byte, given the carry. -/
inductive ModifiesBy : Operation → Bool → (Byte → Byte × Bool) → Prop where
  | inc (c : Bool) : ModifiesBy .inc c fun v => (v + 1, false)
  | dec (c : Bool) : ModifiesBy .dec c fun v => (v - 1, false)
  | asl (c : Bool) : ModifiesBy .asl c asl
  | lsr (c : Bool) : ModifiesBy .lsr c lsr
  | rol (c : Bool) : ModifiesBy .rol c (rol c)
  | ror (c : Bool) : ModifiesBy .ror c (ror c)
  | slo (c : Bool) : ModifiesBy .slo c asl
  | rla (c : Bool) : ModifiesBy .rla c (rol c)
  | sre (c : Bool) : ModifiesBy .sre c lsr
  | rra (c : Bool) : ModifiesBy .rra c (ror c)
  | dcp (c : Bool) : ModifiesBy .dcp c fun v => (v - 1, false)
  | isc (c : Bool) : ModifiesBy .isc c fun v => (v + 1, false)

/-- What a modifying instruction does after the write, with the new byte and the carry out. -/
inductive ModifiesTo : Operation → Byte × Bool → State → State → Prop where
  | inc (r : Byte × Bool) (u : State) : ModifiesTo .inc r u (setZN r.1 u)
  | dec (r : Byte × Bool) (u : State) : ModifiesTo .dec r u (setZN r.1 u)
  | asl (r : Byte × Bool) (u : State) : ModifiesTo .asl r u (setZN r.1 (setC r.2 u))
  | lsr (r : Byte × Bool) (u : State) : ModifiesTo .lsr r u (setZN r.1 (setC r.2 u))
  | rol (r : Byte × Bool) (u : State) : ModifiesTo .rol r u (setZN r.1 (setC r.2 u))
  | ror (r : Byte × Bool) (u : State) : ModifiesTo .ror r u (setZN r.1 (setC r.2 u))
  | slo (r : Byte × Bool) (u : State) : ModifiesTo .slo r u (combineWithA (fun a b => a ||| b) r.1 r.2 u)
  | rla (r : Byte × Bool) (u : State) : ModifiesTo .rla r u (combineWithA (fun a b => a &&& b) r.1 r.2 u)
  | sre (r : Byte × Bool) (u : State) : ModifiesTo .sre r u (combineWithA (fun a b => a ^^^ b) r.1 r.2 u)
  | rra (r : Byte × Bool) (u : State) : ModifiesTo .rra r u (addWithCarry r.1 (setC r.2 u))
  | dcp (r : Byte × Bool) (u : State) : ModifiesTo .dcp r u (compareWith u.a r.1 u)
  | isc (r : Byte × Bool) (u : State) : ModifiesTo .isc r u (addWithCarry (r.1 ^^^ 0xFF#8) u)

/-- The instructions that make no access: what each gives. -/
inductive Plain (s : State) : Operation → State → Prop where
  | tax : Plain s .tax (setZN s.a (s.setX s.a))
  | txa : Plain s .txa (setZN s.x (s.setA s.x))
  | tay : Plain s .tay (setZN s.a (s.setY s.a))
  | tya : Plain s .tya (setZN s.y (s.setA s.y))
  | tsx : Plain s .tsx (setZN s.sp (s.setX s.sp))
  | txs : Plain s .txs (s.setSp s.x)
  | inx : Plain s .inx (setZN (s.x + 1) (s.setX (s.x + 1)))
  | iny : Plain s .iny (setZN (s.y + 1) (s.setY (s.y + 1)))
  | dex : Plain s .dex (setZN (s.x - 1) (s.setX (s.x - 1)))
  | dey : Plain s .dey (setZN (s.y - 1) (s.setY (s.y - 1)))
  | clc : Plain s .clc (s.setP { s.p with c := false })
  | sec : Plain s .sec (s.setP { s.p with c := true })
  | cli : Plain s .cli (s.setP { s.p with i := false })
  | sei : Plain s .sei (s.setP { s.p with i := true })
  | clv : Plain s .clv (s.setP { s.p with v := false })
  | cld : Plain s .cld (s.setP { s.p with d := false })
  | sed : Plain s .sed (s.setP { s.p with d := true })
  | nop : Plain s .nop s
  | skb : Plain s .skb s
  | skw : Plain s .skw s
  | hlt : Plain s .hlt { s with run := .halted }

/-- The eight branches. -/
def isBranch (op : Operation) : Bool := op ∈ [.bpl, .bmi, .bvc, .bvs, .bcc, .bcs, .bne, .beq]

/-- Everything an instruction can do when it completes. -/
inductive Effect (i : Instr) (s : State) : State → Prop where
  | read {src : Src} {v : Byte} {u t : State} (ho : i.operand = src.operand) (hl : load src s = .ok v u)
      (ht : ReadsTo i.operation v u t) : Effect i s t
  | write {m : MemMode} {v : Byte} {t : State} (ho : i.operand = .mem m) (hv : StoresOf i.operation s v)
      (ht : store m v s = .ok () t) : Effect i s t
  | modify {m : MemMode} {f : Byte → Byte × Bool} {r : Byte × Bool} {u t : State} (ho : i.operand = .mem m)
      (hf : ModifiesBy i.operation s.p.c f) (hm : Machine.modify (.mem m) f s = .ok r u)
      (ht : ModifiesTo i.operation r u t) : Effect i s t
  | modifyAcc {f : Byte → Byte × Bool} {t : State} (ho : i.operand = .acc) (hf : ModifiesBy i.operation s.p.c f)
      (ht : ModifiesTo i.operation (f s.a) (s.setA (f s.a).1) t) : Effect i s t
  | plain {t : State} (ht : Plain s i.operation t) : Effect i s t
  | branch {d : Int} (ho : i.operand = .rel d) (hb : isBranch i.operation = true) :
      Effect i s (if branchTaken i.operation s.p then s.setPc (s.pc + BitVec.ofInt 16 d) else s)
  | jmp {addr : Word} (hi : i = .jmpAbs addr) : Effect i s (s.setPc addr)
  | jmpInd {ptr target : Word} {u : State} (hi : i = .jmpInd ptr) (hr : resolveIndirect ptr s = .ok target u) :
      Effect i s (u.setPc target)
  | jsr {addr : Word} {u : State} (hi : i = .jsr addr) (hp : push16 (s.pc - 1) s = .ok () u) :
      Effect i s (u.setPc addr)
  | rts {w : Word} {u : State} (hi : i = .rts) (hp : pull16 s = .ok w u) : Effect i s (u.setPc (w + 1))
  | rti {t : State} (hi : i = .rti) (hr : returnFromInterrupt s = .ok () t) : Effect i s t
  | pha {t : State} (hi : i = .pha) (hp : push s.a s = .ok () t) : Effect i s t
  | php {t : State} (hi : i = .php) (hp : push (s.p.pack ||| 0x10#8) s = .ok () t) : Effect i s t
  | pla {v : Byte} {u : State} (hi : i = .pla) (hp : pull s = .ok v u) : Effect i s (setZN v (u.setA v))
  | plp {v : Byte} {u : State} (hi : i = .plp) (hp : pull s = .ok v u) : Effect i s (unpackP v u)

/-- The result of a `conclude` that goes on with a plain next state. -/
theorem Access.conclude_next {α : Type} {r : Access α} {k : α → State → State} {t : State}
    (h : (r.conclude fun v u => .next (k v u)) = .next t) : ∃ v u, r = .ok v u ∧ k v u = t := by
  obtain ⟨v, u, hr, hk⟩ := Access.conclude_eq_next.mp h
  cases hk
  exact ⟨v, u, hr, rfl⟩

theorem opLda_effect {i : Instr} {src : Src} {s t : State} (hi : i.operation = .lda)
    (ho : i.operand = src.operand) (h : opLda src s = .next t) : Effect i s t := by
  obtain ⟨v, u, hl, rfl⟩ := Access.conclude_next h
  exact .read ho hl (hi ▸ .lda v u)

theorem opLdx_effect {i : Instr} {src : Src} {s t : State} (hi : i.operation = .ldx)
    (ho : i.operand = src.operand) (h : opLdx src s = .next t) : Effect i s t := by
  obtain ⟨v, u, hl, rfl⟩ := Access.conclude_next h
  exact .read ho hl (hi ▸ .ldx v u)

theorem opLdy_effect {i : Instr} {src : Src} {s t : State} (hi : i.operation = .ldy)
    (ho : i.operand = src.operand) (h : opLdy src s = .next t) : Effect i s t := by
  obtain ⟨v, u, hl, rfl⟩ := Access.conclude_next h
  exact .read ho hl (hi ▸ .ldy v u)

theorem opAdc_effect {i : Instr} {src : Src} {s t : State} (hi : i.operation = .adc)
    (ho : i.operand = src.operand) (h : opAdc src s = .next t) : Effect i s t := by
  obtain ⟨v, u, hl, rfl⟩ := Access.conclude_next h
  exact .read ho hl (hi ▸ .adc v u)

theorem opSbc_effect {i : Instr} {src : Src} {s t : State} (hi : i.operation = .sbc)
    (ho : i.operand = src.operand) (h : opSbc src s = .next t) : Effect i s t := by
  obtain ⟨v, u, hl, rfl⟩ := Access.conclude_next h
  exact .read ho hl (hi ▸ .sbc v u)

theorem opAnd_effect {i : Instr} {src : Src} {s t : State} (hi : i.operation = .and)
    (ho : i.operand = src.operand) (h : opAnd src s = .next t) : Effect i s t := by
  obtain ⟨v, u, hl, rfl⟩ := Access.conclude_next h
  exact .read ho hl (hi ▸ .and v u)

theorem opOra_effect {i : Instr} {src : Src} {s t : State} (hi : i.operation = .ora)
    (ho : i.operand = src.operand) (h : opOra src s = .next t) : Effect i s t := by
  obtain ⟨v, u, hl, rfl⟩ := Access.conclude_next h
  exact .read ho hl (hi ▸ .ora v u)

theorem opEor_effect {i : Instr} {src : Src} {s t : State} (hi : i.operation = .eor)
    (ho : i.operand = src.operand) (h : opEor src s = .next t) : Effect i s t := by
  obtain ⟨v, u, hl, rfl⟩ := Access.conclude_next h
  exact .read ho hl (hi ▸ .eor v u)

theorem opCmp_effect {i : Instr} {src : Src} {s t : State} (hi : i.operation = .cmp)
    (ho : i.operand = src.operand) (h : opCmp src s = .next t) : Effect i s t := by
  obtain ⟨v, u, hl, rfl⟩ := Access.conclude_next h
  exact .read ho hl (hi ▸ .cmp v u)

theorem opCpx_effect {i : Instr} {src : Src} {s t : State} (hi : i.operation = .cpx)
    (ho : i.operand = src.operand) (h : opCpx src s = .next t) : Effect i s t := by
  obtain ⟨v, u, hl, rfl⟩ := Access.conclude_next h
  exact .read ho hl (hi ▸ .cpx v u)

theorem opCpy_effect {i : Instr} {src : Src} {s t : State} (hi : i.operation = .cpy)
    (ho : i.operand = src.operand) (h : opCpy src s = .next t) : Effect i s t := by
  obtain ⟨v, u, hl, rfl⟩ := Access.conclude_next h
  exact .read ho hl (hi ▸ .cpy v u)

theorem opLax_effect {i : Instr} {m : MemMode} {s t : State} (hi : i.operation = .lax)
    (ho : i.operand = .mem m) (h : opLax m s = .next t) : Effect i s t := by
  obtain ⟨v, u, hl, rfl⟩ := Access.conclude_next h
  exact .read (src := .mem m) ho hl (hi ▸ .lax v u)

theorem opBit_effect {i : Instr} {m : MemMode} {s t : State} (hi : i.operation = .bit)
    (ho : i.operand = .mem m) (h : opBit m s = .next t) : Effect i s t := by
  obtain ⟨v, u, hl, rfl⟩ := Access.conclude_next h
  exact .read (src := .mem m) ho hl (hi ▸ .bit v u)

theorem opSta_effect {i : Instr} {m : MemMode} {s t : State} (hi : i.operation = .sta)
    (ho : i.operand = .mem m) (h : opSta m s = .next t) : Effect i s t := by
  obtain ⟨_, u, hl, rfl⟩ := Access.conclude_next (k := fun _ u => u) h
  exact .write ho (hi ▸ .sta s) hl

theorem opStx_effect {i : Instr} {m : MemMode} {s t : State} (hi : i.operation = .stx)
    (ho : i.operand = .mem m) (h : opStx m s = .next t) : Effect i s t := by
  obtain ⟨_, u, hl, rfl⟩ := Access.conclude_next (k := fun _ u => u) h
  exact .write ho (hi ▸ .stx s) hl

theorem opSty_effect {i : Instr} {m : MemMode} {s t : State} (hi : i.operation = .sty)
    (ho : i.operand = .mem m) (h : opSty m s = .next t) : Effect i s t := by
  obtain ⟨_, u, hl, rfl⟩ := Access.conclude_next (k := fun _ u => u) h
  exact .write ho (hi ▸ .sty s) hl

theorem opAax_effect {i : Instr} {m : MemMode} {s t : State} (hi : i.operation = .aax)
    (ho : i.operand = .mem m) (h : opAax m s = .next t) : Effect i s t := by
  obtain ⟨_, u, hl, rfl⟩ := Access.conclude_next (k := fun _ u => u) h
  exact .write ho (hi ▸ .aax s) hl

theorem opInc_effect {i : Instr} {m : MemMode} {s t : State} (hi : i.operation = .inc)
    (ho : i.operand = .mem m) (h : opInc m s = .next t) : Effect i s t := by
  obtain ⟨r, u, hm, rfl⟩ := Access.conclude_next h
  exact .modify ho (hi ▸ .inc s.p.c) hm (hi ▸ .inc r u)

theorem opDec_effect {i : Instr} {m : MemMode} {s t : State} (hi : i.operation = .dec)
    (ho : i.operand = .mem m) (h : opDec m s = .next t) : Effect i s t := by
  obtain ⟨r, u, hm, rfl⟩ := Access.conclude_next h
  exact .modify ho (hi ▸ .dec s.p.c) hm (hi ▸ .dec r u)

theorem opSlo_effect {i : Instr} {m : MemMode} {s t : State} (hi : i.operation = .slo)
    (ho : i.operand = .mem m) (h : opSlo m s = .next t) : Effect i s t := by
  obtain ⟨r, u, hm, rfl⟩ := Access.conclude_next h
  exact .modify ho (hi ▸ .slo s.p.c) hm (hi ▸ .slo r u)

theorem opRla_effect {i : Instr} {m : MemMode} {s t : State} (hi : i.operation = .rla)
    (ho : i.operand = .mem m) (h : opRla m s = .next t) : Effect i s t := by
  obtain ⟨r, u, hm, rfl⟩ := Access.conclude_next h
  exact .modify ho (hi ▸ .rla s.p.c) hm (hi ▸ .rla r u)

theorem opSre_effect {i : Instr} {m : MemMode} {s t : State} (hi : i.operation = .sre)
    (ho : i.operand = .mem m) (h : opSre m s = .next t) : Effect i s t := by
  obtain ⟨r, u, hm, rfl⟩ := Access.conclude_next h
  exact .modify ho (hi ▸ .sre s.p.c) hm (hi ▸ .sre r u)

theorem opRra_effect {i : Instr} {m : MemMode} {s t : State} (hi : i.operation = .rra)
    (ho : i.operand = .mem m) (h : opRra m s = .next t) : Effect i s t := by
  obtain ⟨r, u, hm, rfl⟩ := Access.conclude_next h
  exact .modify ho (hi ▸ .rra s.p.c) hm (hi ▸ .rra r u)

theorem opDcp_effect {i : Instr} {m : MemMode} {s t : State} (hi : i.operation = .dcp)
    (ho : i.operand = .mem m) (h : opDcp m s = .next t) : Effect i s t := by
  obtain ⟨r, u, hm, rfl⟩ := Access.conclude_next h
  exact .modify ho (hi ▸ .dcp s.p.c) hm (hi ▸ .dcp r u)

theorem opIsc_effect {i : Instr} {m : MemMode} {s t : State} (hi : i.operation = .isc)
    (ho : i.operand = .mem m) (h : opIsc m s = .next t) : Effect i s t := by
  obtain ⟨r, u, hm, rfl⟩ := Access.conclude_next h
  exact .modify ho (hi ▸ .isc s.p.c) hm (hi ▸ .isc r u)

theorem opAsl_effect {i : Instr} {dst : Dst} {s t : State} (hi : i.operation = .asl)
    (ho : i.operand = dst.operand) (h : opAsl dst s = .next t) : Effect i s t := by
  obtain ⟨r, u, hm, rfl⟩ := Access.conclude_next h
  cases dst with
  | acc => cases hm; exact .modifyAcc (f := asl) ho (hi ▸ .asl s.p.c) (hi ▸ .asl _ _)
  | mem m => exact .modify ho (hi ▸ .asl s.p.c) hm (hi ▸ .asl r u)

theorem opLsr_effect {i : Instr} {dst : Dst} {s t : State} (hi : i.operation = .lsr)
    (ho : i.operand = dst.operand) (h : opLsr dst s = .next t) : Effect i s t := by
  obtain ⟨r, u, hm, rfl⟩ := Access.conclude_next h
  cases dst with
  | acc => cases hm; exact .modifyAcc (f := lsr) ho (hi ▸ .lsr s.p.c) (hi ▸ .lsr _ _)
  | mem m => exact .modify ho (hi ▸ .lsr s.p.c) hm (hi ▸ .lsr r u)

theorem opRol_effect {i : Instr} {dst : Dst} {s t : State} (hi : i.operation = .rol)
    (ho : i.operand = dst.operand) (h : opRol dst s = .next t) : Effect i s t := by
  obtain ⟨r, u, hm, rfl⟩ := Access.conclude_next h
  cases dst with
  | acc => cases hm; exact .modifyAcc (f := rol s.p.c) ho (hi ▸ .rol s.p.c) (hi ▸ .rol _ _)
  | mem m => exact .modify ho (hi ▸ .rol s.p.c) hm (hi ▸ .rol r u)

theorem opRor_effect {i : Instr} {dst : Dst} {s t : State} (hi : i.operation = .ror)
    (ho : i.operand = dst.operand) (h : opRor dst s = .next t) : Effect i s t := by
  obtain ⟨r, u, hm, rfl⟩ := Access.conclude_next h
  cases dst with
  | acc => cases hm; exact .modifyAcc (f := ror s.p.c) ho (hi ▸ .ror s.p.c) (hi ▸ .ror _ _)
  | mem m => exact .modify ho (hi ▸ .ror s.p.c) hm (hi ▸ .ror r u)

/-- What an instruction that completes has done. -/
theorem exec_effect {i : Instr} {s t : State} (h : exec i s = .next t) : Effect i s t := by
  cases i with
  | hlt => cases h; exact .plain .hlt
  | oraIzx zp => exact opOra_effect (src := .mem (.izx zp)) rfl rfl h
  | sloIzx zp => exact opSlo_effect rfl rfl h
  | skbZp04 zp => cases h; exact .plain .skb
  | oraZp zp => exact opOra_effect (src := .mem (.zp zp)) rfl rfl h
  | aslZp zp => exact opAsl_effect (dst := .mem (.zp zp)) rfl rfl h
  | sloZp zp => exact opSlo_effect rfl rfl h
  | php => obtain ⟨_, u, hp, rfl⟩ := Access.conclude_next (k := fun _ u => u) h; exact .php rfl hp
  | oraImm v => exact opOra_effect (src := .imm v) rfl rfl h
  | aslAcc => exact opAsl_effect (dst := .acc) rfl rfl h
  | skwAbs addr => cases h; exact .plain .skw
  | oraAbs addr => exact opOra_effect (src := .mem (.abs addr)) rfl rfl h
  | aslAbs addr => exact opAsl_effect (dst := .mem (.abs addr)) rfl rfl h
  | sloAbs addr => exact opSlo_effect rfl rfl h
  | bpl d => cases h; exact .branch rfl rfl
  | oraIzy zp => exact opOra_effect (src := .mem (.izy zp)) rfl rfl h
  | sloIzy zp => exact opSlo_effect rfl rfl h
  | skbZpx14 zp => cases h; exact .plain .skb
  | oraZpx zp => exact opOra_effect (src := .mem (.zpx zp)) rfl rfl h
  | aslZpx zp => exact opAsl_effect (dst := .mem (.zpx zp)) rfl rfl h
  | sloZpx zp => exact opSlo_effect rfl rfl h
  | clc => cases h; exact .plain .clc
  | oraAby addr => exact opOra_effect (src := .mem (.aby addr)) rfl rfl h
  | nop1A => cases h; exact .plain .nop
  | sloAby addr => exact opSlo_effect rfl rfl h
  | skwAbx1C addr => cases h; exact .plain .skw
  | oraAbx addr => exact opOra_effect (src := .mem (.abx addr)) rfl rfl h
  | aslAbx addr => exact opAsl_effect (dst := .mem (.abx addr)) rfl rfl h
  | sloAbx addr => exact opSlo_effect rfl rfl h
  | jsr addr => obtain ⟨_, u, hp, rfl⟩ := Access.conclude_next h; exact .jsr rfl hp
  | andIzx zp => exact opAnd_effect (src := .mem (.izx zp)) rfl rfl h
  | rlaIzx zp => exact opRla_effect rfl rfl h
  | bitZp zp => exact opBit_effect rfl rfl h
  | andZp zp => exact opAnd_effect (src := .mem (.zp zp)) rfl rfl h
  | rolZp zp => exact opRol_effect (dst := .mem (.zp zp)) rfl rfl h
  | rlaZp zp => exact opRla_effect rfl rfl h
  | plp => obtain ⟨v, u, hp, rfl⟩ := Access.conclude_next h; exact .plp rfl hp
  | andImm v => exact opAnd_effect (src := .imm v) rfl rfl h
  | rolAcc => exact opRol_effect (dst := .acc) rfl rfl h
  | bitAbs addr => exact opBit_effect rfl rfl h
  | andAbs addr => exact opAnd_effect (src := .mem (.abs addr)) rfl rfl h
  | rolAbs addr => exact opRol_effect (dst := .mem (.abs addr)) rfl rfl h
  | rlaAbs addr => exact opRla_effect rfl rfl h
  | bmi d => cases h; exact .branch rfl rfl
  | andIzy zp => exact opAnd_effect (src := .mem (.izy zp)) rfl rfl h
  | rlaIzy zp => exact opRla_effect rfl rfl h
  | skbZpx34 zp => cases h; exact .plain .skb
  | andZpx zp => exact opAnd_effect (src := .mem (.zpx zp)) rfl rfl h
  | rolZpx zp => exact opRol_effect (dst := .mem (.zpx zp)) rfl rfl h
  | rlaZpx zp => exact opRla_effect rfl rfl h
  | sec => cases h; exact .plain .sec
  | andAby addr => exact opAnd_effect (src := .mem (.aby addr)) rfl rfl h
  | nop3A => cases h; exact .plain .nop
  | rlaAby addr => exact opRla_effect rfl rfl h
  | skwAbx3C addr => cases h; exact .plain .skw
  | andAbx addr => exact opAnd_effect (src := .mem (.abx addr)) rfl rfl h
  | rolAbx addr => exact opRol_effect (dst := .mem (.abx addr)) rfl rfl h
  | rlaAbx addr => exact opRla_effect rfl rfl h
  | rti => obtain ⟨_, u, hr, rfl⟩ := Access.conclude_next (k := fun _ u => u) h; exact .rti rfl hr
  | eorIzx zp => exact opEor_effect (src := .mem (.izx zp)) rfl rfl h
  | sreIzx zp => exact opSre_effect rfl rfl h
  | skbZp44 zp => cases h; exact .plain .skb
  | eorZp zp => exact opEor_effect (src := .mem (.zp zp)) rfl rfl h
  | lsrZp zp => exact opLsr_effect (dst := .mem (.zp zp)) rfl rfl h
  | sreZp zp => exact opSre_effect rfl rfl h
  | pha => obtain ⟨_, u, hp, rfl⟩ := Access.conclude_next (k := fun _ u => u) h; exact .pha rfl hp
  | eorImm v => exact opEor_effect (src := .imm v) rfl rfl h
  | lsrAcc => exact opLsr_effect (dst := .acc) rfl rfl h
  | jmpAbs addr => cases h; exact .jmp rfl
  | eorAbs addr => exact opEor_effect (src := .mem (.abs addr)) rfl rfl h
  | lsrAbs addr => exact opLsr_effect (dst := .mem (.abs addr)) rfl rfl h
  | sreAbs addr => exact opSre_effect rfl rfl h
  | bvc d => cases h; exact .branch rfl rfl
  | eorIzy zp => exact opEor_effect (src := .mem (.izy zp)) rfl rfl h
  | sreIzy zp => exact opSre_effect rfl rfl h
  | skbZpx54 zp => cases h; exact .plain .skb
  | eorZpx zp => exact opEor_effect (src := .mem (.zpx zp)) rfl rfl h
  | lsrZpx zp => exact opLsr_effect (dst := .mem (.zpx zp)) rfl rfl h
  | sreZpx zp => exact opSre_effect rfl rfl h
  | cli => cases h; exact .plain .cli
  | eorAby addr => exact opEor_effect (src := .mem (.aby addr)) rfl rfl h
  | nop5A => cases h; exact .plain .nop
  | sreAby addr => exact opSre_effect rfl rfl h
  | skwAbx5C addr => cases h; exact .plain .skw
  | eorAbx addr => exact opEor_effect (src := .mem (.abx addr)) rfl rfl h
  | lsrAbx addr => exact opLsr_effect (dst := .mem (.abx addr)) rfl rfl h
  | sreAbx addr => exact opSre_effect rfl rfl h
  | rts => obtain ⟨w, u, hp, rfl⟩ := Access.conclude_next h; exact .rts rfl hp
  | adcIzx zp => exact opAdc_effect (src := .mem (.izx zp)) rfl rfl h
  | rraIzx zp => exact opRra_effect rfl rfl h
  | skbZp64 zp => cases h; exact .plain .skb
  | adcZp zp => exact opAdc_effect (src := .mem (.zp zp)) rfl rfl h
  | rorZp zp => exact opRor_effect (dst := .mem (.zp zp)) rfl rfl h
  | rraZp zp => exact opRra_effect rfl rfl h
  | pla => obtain ⟨v, u, hp, rfl⟩ := Access.conclude_next h; exact .pla rfl hp
  | adcImm v => exact opAdc_effect (src := .imm v) rfl rfl h
  | rorAcc => exact opRor_effect (dst := .acc) rfl rfl h
  | jmpInd ptr => obtain ⟨w, u, hr, rfl⟩ := Access.conclude_next h; exact .jmpInd rfl hr
  | adcAbs addr => exact opAdc_effect (src := .mem (.abs addr)) rfl rfl h
  | rorAbs addr => exact opRor_effect (dst := .mem (.abs addr)) rfl rfl h
  | rraAbs addr => exact opRra_effect rfl rfl h
  | bvs d => cases h; exact .branch rfl rfl
  | adcIzy zp => exact opAdc_effect (src := .mem (.izy zp)) rfl rfl h
  | rraIzy zp => exact opRra_effect rfl rfl h
  | skbZpx74 zp => cases h; exact .plain .skb
  | adcZpx zp => exact opAdc_effect (src := .mem (.zpx zp)) rfl rfl h
  | rorZpx zp => exact opRor_effect (dst := .mem (.zpx zp)) rfl rfl h
  | rraZpx zp => exact opRra_effect rfl rfl h
  | sei => cases h; exact .plain .sei
  | adcAby addr => exact opAdc_effect (src := .mem (.aby addr)) rfl rfl h
  | nop7A => cases h; exact .plain .nop
  | rraAby addr => exact opRra_effect rfl rfl h
  | skwAbx7C addr => cases h; exact .plain .skw
  | adcAbx addr => exact opAdc_effect (src := .mem (.abx addr)) rfl rfl h
  | rorAbx addr => exact opRor_effect (dst := .mem (.abx addr)) rfl rfl h
  | rraAbx addr => exact opRra_effect rfl rfl h
  | skbImm v => cases h; exact .plain .skb
  | staIzx zp => exact opSta_effect rfl rfl h
  | aaxIzx zp => exact opAax_effect rfl rfl h
  | styZp zp => exact opSty_effect rfl rfl h
  | staZp zp => exact opSta_effect rfl rfl h
  | stxZp zp => exact opStx_effect rfl rfl h
  | aaxZp zp => exact opAax_effect rfl rfl h
  | dey => cases h; exact .plain .dey
  | txa => cases h; exact .plain .txa
  | styAbs addr => exact opSty_effect rfl rfl h
  | staAbs addr => exact opSta_effect rfl rfl h
  | stxAbs addr => exact opStx_effect rfl rfl h
  | aaxAbs addr => exact opAax_effect rfl rfl h
  | bcc d => cases h; exact .branch rfl rfl
  | staIzy zp => exact opSta_effect rfl rfl h
  | styZpx zp => exact opSty_effect rfl rfl h
  | staZpx zp => exact opSta_effect rfl rfl h
  | stxZpy zp => exact opStx_effect rfl rfl h
  | aaxZpy zp => exact opAax_effect rfl rfl h
  | tya => cases h; exact .plain .tya
  | staAby addr => exact opSta_effect rfl rfl h
  | txs => cases h; exact .plain .txs
  | staAbx addr => exact opSta_effect rfl rfl h
  | ldyImm v => exact opLdy_effect (src := .imm v) rfl rfl h
  | ldaIzx zp => exact opLda_effect (src := .mem (.izx zp)) rfl rfl h
  | ldxImm v => exact opLdx_effect (src := .imm v) rfl rfl h
  | laxIzx zp => exact opLax_effect rfl rfl h
  | ldyZp zp => exact opLdy_effect (src := .mem (.zp zp)) rfl rfl h
  | ldaZp zp => exact opLda_effect (src := .mem (.zp zp)) rfl rfl h
  | ldxZp zp => exact opLdx_effect (src := .mem (.zp zp)) rfl rfl h
  | laxZp zp => exact opLax_effect rfl rfl h
  | tay => cases h; exact .plain .tay
  | ldaImm v => exact opLda_effect (src := .imm v) rfl rfl h
  | tax => cases h; exact .plain .tax
  | ldyAbs addr => exact opLdy_effect (src := .mem (.abs addr)) rfl rfl h
  | ldaAbs addr => exact opLda_effect (src := .mem (.abs addr)) rfl rfl h
  | ldxAbs addr => exact opLdx_effect (src := .mem (.abs addr)) rfl rfl h
  | laxAbs addr => exact opLax_effect rfl rfl h
  | bcs d => cases h; exact .branch rfl rfl
  | ldaIzy zp => exact opLda_effect (src := .mem (.izy zp)) rfl rfl h
  | laxIzy zp => exact opLax_effect rfl rfl h
  | ldyZpx zp => exact opLdy_effect (src := .mem (.zpx zp)) rfl rfl h
  | ldaZpx zp => exact opLda_effect (src := .mem (.zpx zp)) rfl rfl h
  | ldxZpy zp => exact opLdx_effect (src := .mem (.zpy zp)) rfl rfl h
  | laxZpy zp => exact opLax_effect rfl rfl h
  | clv => cases h; exact .plain .clv
  | ldaAby addr => exact opLda_effect (src := .mem (.aby addr)) rfl rfl h
  | tsx => cases h; exact .plain .tsx
  | ldyAbx addr => exact opLdy_effect (src := .mem (.abx addr)) rfl rfl h
  | ldaAbx addr => exact opLda_effect (src := .mem (.abx addr)) rfl rfl h
  | ldxAby addr => exact opLdx_effect (src := .mem (.aby addr)) rfl rfl h
  | laxAby addr => exact opLax_effect rfl rfl h
  | cpyImm v => exact opCpy_effect (src := .imm v) rfl rfl h
  | cmpIzx zp => exact opCmp_effect (src := .mem (.izx zp)) rfl rfl h
  | dcpIzx zp => exact opDcp_effect rfl rfl h
  | cpyZp zp => exact opCpy_effect (src := .mem (.zp zp)) rfl rfl h
  | cmpZp zp => exact opCmp_effect (src := .mem (.zp zp)) rfl rfl h
  | decZp zp => exact opDec_effect rfl rfl h
  | dcpZp zp => exact opDcp_effect rfl rfl h
  | iny => cases h; exact .plain .iny
  | cmpImm v => exact opCmp_effect (src := .imm v) rfl rfl h
  | dex => cases h; exact .plain .dex
  | cpyAbs addr => exact opCpy_effect (src := .mem (.abs addr)) rfl rfl h
  | cmpAbs addr => exact opCmp_effect (src := .mem (.abs addr)) rfl rfl h
  | decAbs addr => exact opDec_effect rfl rfl h
  | dcpAbs addr => exact opDcp_effect rfl rfl h
  | bne d => cases h; exact .branch rfl rfl
  | cmpIzy zp => exact opCmp_effect (src := .mem (.izy zp)) rfl rfl h
  | dcpIzy zp => exact opDcp_effect rfl rfl h
  | skbZpxD4 zp => cases h; exact .plain .skb
  | cmpZpx zp => exact opCmp_effect (src := .mem (.zpx zp)) rfl rfl h
  | decZpx zp => exact opDec_effect rfl rfl h
  | dcpZpx zp => exact opDcp_effect rfl rfl h
  | cld => cases h; exact .plain .cld
  | cmpAby addr => exact opCmp_effect (src := .mem (.aby addr)) rfl rfl h
  | nopDA => cases h; exact .plain .nop
  | dcpAby addr => exact opDcp_effect rfl rfl h
  | skwAbxDC addr => cases h; exact .plain .skw
  | cmpAbx addr => exact opCmp_effect (src := .mem (.abx addr)) rfl rfl h
  | decAbx addr => exact opDec_effect rfl rfl h
  | dcpAbx addr => exact opDcp_effect rfl rfl h
  | cpxImm v => exact opCpx_effect (src := .imm v) rfl rfl h
  | sbcIzx zp => exact opSbc_effect (src := .mem (.izx zp)) rfl rfl h
  | iscIzx zp => exact opIsc_effect rfl rfl h
  | cpxZp zp => exact opCpx_effect (src := .mem (.zp zp)) rfl rfl h
  | sbcZp zp => exact opSbc_effect (src := .mem (.zp zp)) rfl rfl h
  | incZp zp => exact opInc_effect rfl rfl h
  | iscZp zp => exact opIsc_effect rfl rfl h
  | inx => cases h; exact .plain .inx
  | sbcImm v => exact opSbc_effect (src := .imm v) rfl rfl h
  | nop => cases h; exact .plain .nop
  | sbcImmEB v => exact opSbc_effect (src := .imm v) rfl rfl h
  | cpxAbs addr => exact opCpx_effect (src := .mem (.abs addr)) rfl rfl h
  | sbcAbs addr => exact opSbc_effect (src := .mem (.abs addr)) rfl rfl h
  | incAbs addr => exact opInc_effect rfl rfl h
  | iscAbs addr => exact opIsc_effect rfl rfl h
  | beq d => cases h; exact .branch rfl rfl
  | sbcIzy zp => exact opSbc_effect (src := .mem (.izy zp)) rfl rfl h
  | iscIzy zp => exact opIsc_effect rfl rfl h
  | skbZpxF4 zp => cases h; exact .plain .skb
  | sbcZpx zp => exact opSbc_effect (src := .mem (.zpx zp)) rfl rfl h
  | incZpx zp => exact opInc_effect rfl rfl h
  | iscZpx zp => exact opIsc_effect rfl rfl h
  | sed => cases h; exact .plain .sed
  | sbcAby addr => exact opSbc_effect (src := .mem (.aby addr)) rfl rfl h
  | nopFA => cases h; exact .plain .nop
  | iscAby addr => exact opIsc_effect rfl rfl h
  | skwAbxFC addr => cases h; exact .plain .skw
  | sbcAbx addr => exact opSbc_effect (src := .mem (.abx addr)) rfl rfl h
  | incAbx addr => exact opInc_effect rfl rfl h
  | iscAbx addr => exact opIsc_effect rfl rfl h

end Sys2Proof.Machine
end

