-- ==== Sys2Proof/Laws/Memory.lean ====
section
/-! SUPPORT. The laws of the Memory primitive and of the framebuffer: a write is read back, leaves every other
index alone and keeps the canonical form. -/

namespace Sys2Proof.Machine

theorem Memory.risesFrom_mono {m : Memory} {low low' : Nat} (h : low' ≤ low) (hm : m.risesFrom low = true) :
    m.risesFrom low' = true := by
  cases m with
  | nil => rfl
  | cons c rest =>
    simp only [risesFrom, Bool.and_eq_true, decide_eq_true_eq] at hm ⊢
    exact ⟨⟨h.trans hm.1.1, hm.1.2⟩, hm.2⟩

/-- Below the first listed index everything reads as unlisted. -/
theorem Memory.read_below {m : Memory} {low i : Nat} (hm : m.risesFrom low = true) (h : i < low) :
    m.read i = unlisted := by
  cases m with
  | nil => rfl
  | cons c rest =>
    simp only [risesFrom, Bool.and_eq_true, decide_eq_true_eq] at hm
    simp [read, Nat.lt_of_lt_of_le h hm.1.1]

theorem Memory.read_entry_append {m : Memory} {i : Nat} (v : Byte) (hm : m.risesFrom (i + 1) = true) :
    (entry i v ++ m).read i = v := by
  by_cases hv : v = unlisted
  · simp [entry, hv, read_below hm (Nat.lt_succ_self i)]
  · simp [entry, hv, read]

theorem Memory.read_entry_append_ne {m : Memory} {i j : Nat} (v : Byte) (hm : m.risesFrom (i + 1) = true)
    (h : j ≠ i) : (entry i v ++ m).read j = m.read j := by
  by_cases hv : v = unlisted
  · simp [entry, hv]
  · rcases Nat.lt_or_gt_of_ne h with h | h
    · simp [entry, hv, read, h, read_below hm (Nat.lt_succ_of_lt h)]
    · simp [entry, hv, read, h.ne', Nat.not_lt_of_gt h]

theorem Memory.risesFrom_entry_append {m : Memory} {i low : Nat} (v : Byte) (hm : m.risesFrom (i + 1) = true)
    (h : low ≤ i) : (entry i v ++ m).risesFrom low = true := by
  by_cases hv : v = unlisted
  · simpa [entry, hv] using risesFrom_mono (Nat.le_succ_of_le h) hm
  · simp [entry, hv, risesFrom, h, hm]

/-- Everything a write does to reads and to the order, by the position of the index. -/
theorem Memory.write_spec {m : Memory} {low i : Nat} (v : Byte) (hm : m.risesFrom low = true) (h : low ≤ i) :
    (m.write i v).risesFrom low = true ∧ ∀ j, (m.write i v).read j = if j = i then v else m.read j := by
  induction m generalizing low with
  | nil =>
    refine ⟨?_, fun j => ?_⟩
    · simpa [write] using risesFrom_entry_append (m := []) v rfl h
    · by_cases hj : j = i
      · subst hj; simpa [write] using read_entry_append (m := []) (i := j) v rfl
      · simpa [write, hj] using read_entry_append_ne (m := []) v rfl hj
  | cons c rest ih =>
    obtain ⟨k, w⟩ := c
    have hm' := hm
    simp only [risesFrom, Bool.and_eq_true, decide_eq_true_eq] at hm
    by_cases hlt : i < k
    · have hk : Memory.risesFrom (i + 1) ((k, w) :: rest) = true := by
        simp [risesFrom, hm.1.2, hm.2]; omega
      refine ⟨by simpa [write, hlt] using risesFrom_entry_append v hk h, fun j => ?_⟩
      by_cases hj : j = i
      · subst hj; simpa [write, hlt] using read_entry_append v hk
      · simpa [write, hlt, hj] using read_entry_append_ne v hk hj
    · by_cases heq : i = k
      · subst heq
        refine ⟨by simpa [write] using risesFrom_entry_append v hm.2 h, fun j => ?_⟩
        by_cases hj : j = i
        · subst hj; simpa [write] using read_entry_append v hm.2
        · rcases Nat.lt_or_gt_of_ne hj with hl | hg
          · simp [write, hj, read, hl, read_entry_append_ne v hm.2 hj,
              read_below hm.2 (Nat.lt_succ_of_lt hl)]
          · simp [write, hj, read, Nat.not_lt_of_gt hg, read_entry_append_ne v hm.2 hj]
      · obtain ⟨h1, h2⟩ := ih hm.2 (by omega : k + 1 ≤ i)
        refine ⟨by simp [write, hlt, heq, risesFrom, hm.1, h1], fun j => ?_⟩
        simp only [write, hlt, heq, if_false, read, h2]
        by_cases hj : j < k
        · simp [hj]; omega
        · by_cases hjk : j = k
          · subst hjk; simp [Ne.symm heq]
          · simp [hj, hjk]

theorem Memory.read_write_same {size : Nat} {m : Memory} (i : Nat) (v : Byte) (hm : m.wf size = true) :
    (m.write i v).read i = v := by
  simp only [wf, Bool.and_eq_true] at hm
  simpa using (write_spec v hm.1 (Nat.zero_le i)).2 i

theorem Memory.read_write_other {size : Nat} {m : Memory} {i j : Nat} (v : Byte) (hm : m.wf size = true)
    (h : j ≠ i) : (m.write i v).read j = m.read j := by
  simp only [wf, Bool.and_eq_true] at hm
  simpa [h] using (write_spec v hm.1 (Nat.zero_le i)).2 j

theorem Memory.all_lt_write {m : Memory} {size i : Nat} (v : Byte) (h : i < size)
    (hm : (m.all fun c => decide (c.1 < size)) = true) :
    ((m.write i v).all fun c => decide (c.1 < size)) = true := by
  have he : ((entry i v).all fun c => decide (c.1 < size)) = true := by
    by_cases hv : v = unlisted <;> simp [entry, hv, h]
  induction m with
  | nil => simpa [write] using he
  | cons c rest ih =>
    obtain ⟨k, w⟩ := c
    simp only [List.all_cons, Bool.and_eq_true] at hm
    by_cases hlt : i < k
    · simp only [write, hlt, if_true, List.all_append, List.all_cons, he, hm.1, hm.2, Bool.and_self]
    · by_cases heq : i = k
      · simp only [write, heq, Nat.lt_irrefl, if_false, if_true, List.all_append, hm.2, Bool.and_true]
        exact heq ▸ he
      · simp only [write, hlt, heq, if_false, List.all_cons, hm.1, ih hm.2, Bool.and_self]

/-- A write inside the buffer keeps the canonical form. -/
theorem Memory.wf_write {size : Nat} {m : Memory} {i : Nat} (v : Byte) (hm : m.wf size = true) (h : i < size) :
    (m.write i v).wf size = true := by
  simp only [wf, Bool.and_eq_true] at hm ⊢
  exact ⟨(write_spec v hm.1 (Nat.zero_le i)).1, all_lt_write v h hm.2⟩

/-- A bulk write inside the buffer keeps the canonical form. -/
theorem Memory.wf_writeSlice {size : Nat} {m : Memory} (bytes : List Byte) {i : Nat} (hm : m.wf size = true)
    (h : i + bytes.length ≤ size) : (m.writeSlice i bytes).wf size = true := by
  induction bytes generalizing i with
  | nil => exact hm
  | cons b rest ih =>
    simp only [List.length_cons] at h
    exact wf_write b (ih (by omega)) (by omega)

/-- What a bulk write leaves to read: the slice's bytes in its range, the old bytes elsewhere (R61). -/
theorem Memory.read_writeSlice {size : Nat} {m : Memory} (bytes : List Byte) {i : Nat} (hm : m.wf size = true)
    (h : i + bytes.length ≤ size) (j : Nat) :
    (m.writeSlice i bytes).read j =
      if i ≤ j then bytes.getD (j - i) (m.read j) else m.read j := by
  induction bytes generalizing i with
  | nil => simp [writeSlice]
  | cons b rest ih =>
    simp only [List.length_cons] at h
    have hwf := wf_writeSlice rest hm (by omega : i + 1 + rest.length ≤ size)
    by_cases hj : j = i
    · subst hj; simp [writeSlice, read_write_same j b hwf]
    · rw [writeSlice, read_write_other b hwf hj, ih (by omega)]
      by_cases hij : i ≤ j
      · have e : j - i = (j - (i + 1)) + 1 := by omega
        simp [hij, (by omega : i + 1 ≤ j), e]
      · rw [if_neg (by omega : ¬ i + 1 ≤ j), if_neg hij]

theorem Framebuffer.read_write_same (f : Framebuffer) (i : Nat) (colour : Colour) :
    (f.write i colour).read i = colour := by
  induction f with
  | nil => simp [write, read]
  | cons c rest ih =>
    obtain ⟨k, old⟩ := c
    by_cases hlt : i < k
    · simp [write, hlt, read]
    · by_cases heq : i = k
      · simp [write, heq, read]
      · simp [write, hlt, heq, read, ih]

theorem Framebuffer.read_write_other (f : Framebuffer) {i j : Nat} (colour : Colour) (h : j ≠ i) :
    (f.write i colour).read j = f.read j := by
  induction f with
  | nil => simp [write, read, h]
  | cons c rest ih =>
    obtain ⟨k, old⟩ := c
    by_cases hlt : i < k
    · simp [write, hlt, read, h]
    · by_cases heq : i = k
      · subst heq; simp [write, read, h]
      · simp [write, hlt, heq, read, ih]

theorem Framebuffer.risesFrom_mono {f : Framebuffer} {low low' : Nat} (h : low' ≤ low)
    (hf : f.risesFrom low = true) : f.risesFrom low' = true := by
  cases f with
  | nil => rfl
  | cons c rest =>
    simp only [risesFrom, Bool.and_eq_true, decide_eq_true_eq] at hf ⊢
    exact ⟨⟨h.trans hf.1.1, hf.1.2⟩, hf.2⟩

theorem Framebuffer.risesFrom_write {f : Framebuffer} {low i : Nat} (colour : Colour)
    (hf : f.risesFrom low = true) (h : low ≤ i) (hi : i < size) : (f.write i colour).risesFrom low = true := by
  induction f generalizing low with
  | nil => simp [write, risesFrom, h, hi]
  | cons c rest ih =>
    obtain ⟨k, old⟩ := c
    simp only [risesFrom, Bool.and_eq_true, decide_eq_true_eq] at hf
    by_cases hlt : i < k
    · simp [write, hlt, risesFrom, h, hi, hf.1.2, hf.2]
    · by_cases heq : i = k
      · subst heq; simp [write, risesFrom, h, hi, hf.2]
      · simp [write, hlt, heq, risesFrom, hf.1, ih hf.2 (by omega)]

/-- Writing a cell of the framebuffer keeps its canonical form. -/
theorem Framebuffer.wf_write {f : Framebuffer} {i : Nat} (colour : Colour) (hf : f.wf = true) (hi : i < size) :
    (f.write i colour).wf = true := risesFrom_write colour hf (Nat.zero_le i) hi

end Sys2Proof.Machine
end

