-- ==== Sys2Proof/Laws/Invariant.lean ====
section
/-! SUPPORT. What keeps `State.wf`, the canonical form of all the memories and the ranges of the counters: a bus read,
a cell write, a bus write, a PPU clock. -/

namespace Sys2Proof.Machine

theorem State.wf_iff (s : State) :
    s.wf = true ↔ s.wram.wf 0x800 = true ∧ s.ioreg.wf 0x20 = true ∧ s.sram.wf 0x3FE0 = true ∧ s.prg.wf = true ∧
      s.ppu.oam.wf 0x100 = true ∧ s.ppu.nt.wf 0x1000 = true ∧ s.ppu.pal.wf 0x20 = true ∧
      s.ppu.scanline ≤ 261 ∧ s.ppu.cycle ≤ 340 ∧ s.fb.wf = true := by
  simp only [State.wf, Bool.and_eq_true, decide_eq_true_eq, Region.size, Config.ntSize, and_assoc]

/-- The invariant speaks of the memories, the Ppu and the framebuffer only. -/
theorem State.wf_of_same {s t : State} (hs : s.wf = true) (h1 : t.wram = s.wram) (h2 : t.ioreg = s.ioreg)
    (h3 : t.sram = s.sram) (h4 : t.prg = s.prg) (h5 : t.ppu = s.ppu) (h6 : t.fb = s.fb) : t.wf = true := by
  rw [State.wf_iff] at hs ⊢
  rw [h1, h2, h3, h4, h5, h6]
  exact hs

/-- Of the Ppu the invariant speaks of its memories and counters only. -/
theorem State.wf_setPpu {s : State} {p : Ppu} (hs : s.wf = true) (h1 : p.oam = s.ppu.oam) (h2 : p.nt = s.ppu.nt)
    (h3 : p.pal = s.ppu.pal) (h4 : p.scanline = s.ppu.scanline) (h5 : p.cycle = s.ppu.cycle) :
    (s.setPpu p).wf = true := by
  rw [State.wf_iff] at hs ⊢
  simp only [State.setPpu_ppu, h1, h2, h3, h4, h5]
  exact hs

theorem ReadEffect.wf {s t : State} (h : ReadEffect s t) (hs : s.wf = true) : t.wf = true := by
  obtain ⟨_, _, _, _, _, rfl⟩ := h
  rw [State.wf_iff] at hs ⊢
  exact hs

/-- Replacing a region's memory by one in canonical form keeps the invariant. -/
theorem State.wf_setMem {r : Region} {m m' : Memory} {s : State} (hs : s.wf = true) (hm : s.memOf r = some m)
    (h : m.wf r.size = true → m'.wf r.size = true) : (s.setMem r m').wf = true := by
  rw [State.wf_iff] at hs ⊢
  obtain ⟨h1, h2, h3, h4, h5, h6, h7, h8, h9, h10⟩ := hs
  cases r <;> simp only [State.memOf, Option.some.injEq] at hm
  case wram => subst hm; exact ⟨h h1, h2, h3, h4, h5, h6, h7, h8, h9, h10⟩
  case ioreg => subst hm; exact ⟨h1, h h2, h3, h4, h5, h6, h7, h8, h9, h10⟩
  case sram => subst hm; exact ⟨h1, h2, h h3, h4, h5, h6, h7, h8, h9, h10⟩
  case oam => subst hm; exact ⟨h1, h2, h3, h4, h h5, h6, h7, h8, h9, h10⟩
  case nt => subst hm; exact ⟨h1, h2, h3, h4, h5, h h6, h7, h8, h9, h10⟩
  case pal => subst hm; exact ⟨h1, h2, h3, h4, h5, h6, h h7, h8, h9, h10⟩
  case prg1 =>
    refine ⟨h1, h2, h3, ?_, h5, h6, h7, h8, h9, h10⟩
    simp only [State.setMem]
    cases hp : s.prg with
    | unloaded => rw [hp] at hm; cases hm
    | shared q => rw [hp] at hm h4; cases hm; exact h h4
    | split q1 q2 =>
      rw [hp] at hm h4
      cases hm
      simp only [Prg.wf, Bool.and_eq_true] at h4
      simpa [Prg.setBank1, Prg.wf, h4.2, Region.size] using h h4.1
  case prg2 =>
    refine ⟨h1, h2, h3, ?_, h5, h6, h7, h8, h9, h10⟩
    simp only [State.setMem]
    cases hp : s.prg with
    | unloaded => rw [hp] at hm; cases hm
    | shared q => rw [hp] at hm h4; cases hm; exact h h4
    | split q1 q2 =>
      rw [hp] at hm h4
      cases hm
      simp only [Prg.wf, Bool.and_eq_true] at h4
      simpa [Prg.setBank2, Prg.wf, h4.1, Region.size] using h h4.2

theorem writeCell_wf {r : Region} {i : Nat} {v : Byte} {s t : State} {u : Unit} (hs : s.wf = true)
    (h : writeCell r i v s = .ok u t) : t.wf = true := by
  obtain ⟨hi, m, hm, rfl⟩ := writeCell_eq_ok.mp h
  exact State.wf_setMem hs hm fun hw => Memory.wf_write v hw hi

theorem writeBank_wf {addr : Word} {r : Region} {i : Nat} {v : Byte} {s t : State} {u : Unit} (hs : s.wf = true)
    (h : writeBank addr r i v s = .ok u t) : t.wf = true := by
  unfold writeBank at h
  split at h
  · exact writeCell_wf hs h
  · cases h; exact hs
  · cases h

theorem writeOamData_wf {v : Byte} {s t : State} {u : Unit} (hs : s.wf = true) (h : writeOamData v s = .ok u t) :
    t.wf = true := by
  obtain ⟨_, s1, h1, h2⟩ := Access.andThen_eq_ok.mp h
  cases h2
  have w := writeCell_wf hs h1
  split
  · exact State.wf_setPpu w rfl rfl rfl rfl rfl
  · exact w

theorem writeData_wf {v : Byte} {s t : State} {u : Unit} (hs : s.wf = true) (h : writeData v s = .ok u t) :
    t.wf = true := by
  obtain ⟨_, s1, h1, h2⟩ := Access.andThen_eq_ok.mp h
  cases h2
  unfold ppuWrite at h1
  split at h1
  · exact (advanceVaddr_effect _).wf (writeCell_wf hs h1)
  · cases h1

theorem writeRegister_wf {addr : Word} {v w : Byte} {s t : State} (hs : s.wf = true)
    (h : writeRegister addr v s = .ok w t) : t.wf = true := by
  unfold writeRegister at h
  split at h
  · cases h
  · cases h; exact State.wf_setPpu hs rfl rfl rfl rfl rfl
  · cases h; exact State.wf_setPpu hs rfl rfl rfl rfl rfl
  · obtain ⟨_, s1, h1, h2⟩ := Access.andThen_eq_ok.mp h
    cases h2
    unfold writeStatus at h1
    split at h1 <;> cases h1
    exact hs
  · cases h; exact State.wf_setPpu hs rfl rfl rfl rfl rfl
  · obtain ⟨_, s1, h1, h2⟩ := Access.andThen_eq_ok.mp h
    cases h2; exact writeOamData_wf hs h1
  · cases h; exact State.wf_setPpu hs rfl rfl rfl rfl rfl
  · cases h; exact State.wf_setPpu hs rfl rfl rfl rfl rfl
  · obtain ⟨_, s1, h1, h2⟩ := Access.andThen_eq_ok.mp h
    cases h2; exact writeData_wf hs h1
  · cases h; exact State.wf_setPpu hs rfl rfl rfl rfl rfl

/-- A CpuBus write keeps the invariant. -/
theorem busWrite_wf {addr : Word} {v : Byte} {s t : State} {u : Unit} (hs : s.wf = true)
    (h : busWrite addr v s = .ok u t) : t.wf = true := by
  unfold busWrite at h
  split at h
  · exact writeBank_wf hs h
  · exact writeBank_wf hs h
  · exact writeCell_wf hs h
  · obtain ⟨_, s1, h1, h2⟩ := Access.andThen_eq_ok.mp h
    cases h2; exact writeRegister_wf hs h1

/-- Bulk write keeps the invariant. -/
theorem bulkWrite_wf {r : Region} {i : Nat} {bytes : List Byte} {s t : State} {u : Unit} (hs : s.wf = true)
    (h : bulkWrite r i bytes s = .ok u t) : t.wf = true := by
  unfold bulkWrite at h
  split at h
  · rename_i hi
    split at h
    · rename_i m hm
      cases h
      exact State.wf_setMem hs hm fun hw => Memory.wf_writeSlice bytes hw hi
    · cases h
  · cases h

/-- A PPU clock keeps the invariant. -/
theorem ppuStep_wf {s : State} (hs : s.wf = true) : (ppuStep s).wf = true := by
  rw [State.wf_iff] at hs ⊢
  obtain ⟨h1, h2, h3, h4, h5, h6, h7, h8, h9, h10⟩ := hs
  refine ⟨h1, h2, h3, h4, h5, h6, h7, ?_, ?_, ?_⟩
  · simp only [ppuStep, nextScanline]
    split
    · split <;> omega
    · exact h8
  · simp only [ppuStep, nextCycle]
    split <;> omega
  · simp only [ppuStep, renderPixel]
    split
    · exact Framebuffer.wf_write _ h10 (by simp only [Framebuffer.size]; omega)
    · exact h10

theorem ppuSteps_wf {n : Nat} {s : State} (hs : s.wf = true) : (ppuSteps n s).wf = true := by
  induction n generalizing s with
  | zero => exact hs
  | succ n ih => exact ih (ppuStep_wf hs)

end Sys2Proof.Machine
end

