-- ==== Sys2Proof/Laws/PerInstr.lean ====
section
/-! SUPPORT. Statements made for every instruction, one lemma for each constructor of `Instr`. -/

namespace Sys2Proof.Laws

/-- The dispatch slot of the instruction's own opcode byte makes the instruction back from its operand: the
encoder's opcode column and the decoder's grid agree (30_encoding.md R104 to R106). -/
def OwnRow.Statement (i : Instr) : Prop :=
  match i.operand with
  | .imp => dispatch i.opcode = some (.bare i)
  | .acc => dispatch i.opcode = some (.bare i)
  | .imm v => ∃ make, dispatch i.opcode = some (.byte make) ∧ make v = i
  | .mem (.abs addr) => ∃ make, dispatch i.opcode = some (.word make) ∧ make addr = i
  | .mem (.abx addr) => ∃ make, dispatch i.opcode = some (.word make) ∧ make addr = i
  | .mem (.aby addr) => ∃ make, dispatch i.opcode = some (.word make) ∧ make addr = i
  | .mem (.zp z) => ∃ make, dispatch i.opcode = some (.byte make) ∧ make z = i
  | .mem (.zpx z) => ∃ make, dispatch i.opcode = some (.byte make) ∧ make z = i
  | .mem (.zpy z) => ∃ make, dispatch i.opcode = some (.byte make) ∧ make z = i
  | .mem (.izx z) => ∃ make, dispatch i.opcode = some (.byte make) ∧ make z = i
  | .mem (.izy z) => ∃ make, dispatch i.opcode = some (.byte make) ∧ make z = i
  | .ind ptr => ∃ make, dispatch i.opcode = some (.word make) ∧ make ptr = i
  | .rel d => ∃ make, dispatch i.opcode = some (.offset make) ∧ make d = i

theorem OwnRow.hlt : OwnRow.Statement (.hlt) := rfl
theorem OwnRow.oraIzx (zp : Byte) : OwnRow.Statement (.oraIzx zp) := ⟨_, (rfl : dispatch 0x01#8 = _), rfl⟩
theorem OwnRow.sloIzx (zp : Byte) : OwnRow.Statement (.sloIzx zp) := ⟨_, (rfl : dispatch 0x03#8 = _), rfl⟩
theorem OwnRow.skbZp04 (zp : Byte) : OwnRow.Statement (.skbZp04 zp) := ⟨_, (rfl : dispatch 0x04#8 = _), rfl⟩
theorem OwnRow.oraZp (zp : Byte) : OwnRow.Statement (.oraZp zp) := ⟨_, (rfl : dispatch 0x05#8 = _), rfl⟩
theorem OwnRow.aslZp (zp : Byte) : OwnRow.Statement (.aslZp zp) := ⟨_, (rfl : dispatch 0x06#8 = _), rfl⟩
theorem OwnRow.sloZp (zp : Byte) : OwnRow.Statement (.sloZp zp) := ⟨_, (rfl : dispatch 0x07#8 = _), rfl⟩
theorem OwnRow.php : OwnRow.Statement (.php) := rfl
theorem OwnRow.oraImm (v : Byte) : OwnRow.Statement (.oraImm v) := ⟨_, (rfl : dispatch 0x09#8 = _), rfl⟩
theorem OwnRow.aslAcc : OwnRow.Statement (.aslAcc) := rfl
theorem OwnRow.skwAbs (addr : Word) : OwnRow.Statement (.skwAbs addr) := ⟨_, (rfl : dispatch 0x0C#8 = _), rfl⟩
theorem OwnRow.oraAbs (addr : Word) : OwnRow.Statement (.oraAbs addr) := ⟨_, (rfl : dispatch 0x0D#8 = _), rfl⟩
theorem OwnRow.aslAbs (addr : Word) : OwnRow.Statement (.aslAbs addr) := ⟨_, (rfl : dispatch 0x0E#8 = _), rfl⟩
theorem OwnRow.sloAbs (addr : Word) : OwnRow.Statement (.sloAbs addr) := ⟨_, (rfl : dispatch 0x0F#8 = _), rfl⟩
theorem OwnRow.bpl (d : Int) : OwnRow.Statement (.bpl d) := ⟨_, (rfl : dispatch 0x10#8 = _), rfl⟩
theorem OwnRow.oraIzy (zp : Byte) : OwnRow.Statement (.oraIzy zp) := ⟨_, (rfl : dispatch 0x11#8 = _), rfl⟩
theorem OwnRow.sloIzy (zp : Byte) : OwnRow.Statement (.sloIzy zp) := ⟨_, (rfl : dispatch 0x13#8 = _), rfl⟩
theorem OwnRow.skbZpx14 (zp : Byte) : OwnRow.Statement (.skbZpx14 zp) := ⟨_, (rfl : dispatch 0x14#8 = _), rfl⟩
theorem OwnRow.oraZpx (zp : Byte) : OwnRow.Statement (.oraZpx zp) := ⟨_, (rfl : dispatch 0x15#8 = _), rfl⟩
theorem OwnRow.aslZpx (zp : Byte) : OwnRow.Statement (.aslZpx zp) := ⟨_, (rfl : dispatch 0x16#8 = _), rfl⟩
theorem OwnRow.sloZpx (zp : Byte) : OwnRow.Statement (.sloZpx zp) := ⟨_, (rfl : dispatch 0x17#8 = _), rfl⟩
theorem OwnRow.clc : OwnRow.Statement (.clc) := rfl
theorem OwnRow.oraAby (addr : Word) : OwnRow.Statement (.oraAby addr) := ⟨_, (rfl : dispatch 0x19#8 = _), rfl⟩
theorem OwnRow.nop1A : OwnRow.Statement (.nop1A) := rfl
theorem OwnRow.sloAby (addr : Word) : OwnRow.Statement (.sloAby addr) := ⟨_, (rfl : dispatch 0x1B#8 = _), rfl⟩
theorem OwnRow.skwAbx1C (addr : Word) : OwnRow.Statement (.skwAbx1C addr) := ⟨_, (rfl : dispatch 0x1C#8 = _), rfl⟩
theorem OwnRow.oraAbx (addr : Word) : OwnRow.Statement (.oraAbx addr) := ⟨_, (rfl : dispatch 0x1D#8 = _), rfl⟩
theorem OwnRow.aslAbx (addr : Word) : OwnRow.Statement (.aslAbx addr) := ⟨_, (rfl : dispatch 0x1E#8 = _), rfl⟩
theorem OwnRow.sloAbx (addr : Word) : OwnRow.Statement (.sloAbx addr) := ⟨_, (rfl : dispatch 0x1F#8 = _), rfl⟩
theorem OwnRow.jsr (addr : Word) : OwnRow.Statement (.jsr addr) := ⟨_, (rfl : dispatch 0x20#8 = _), rfl⟩
theorem OwnRow.andIzx (zp : Byte) : OwnRow.Statement (.andIzx zp) := ⟨_, (rfl : dispatch 0x21#8 = _), rfl⟩
theorem OwnRow.rlaIzx (zp : Byte) : OwnRow.Statement (.rlaIzx zp) := ⟨_, (rfl : dispatch 0x23#8 = _), rfl⟩
theorem OwnRow.bitZp (zp : Byte) : OwnRow.Statement (.bitZp zp) := ⟨_, (rfl : dispatch 0x24#8 = _), rfl⟩
theorem OwnRow.andZp (zp : Byte) : OwnRow.Statement (.andZp zp) := ⟨_, (rfl : dispatch 0x25#8 = _), rfl⟩
theorem OwnRow.rolZp (zp : Byte) : OwnRow.Statement (.rolZp zp) := ⟨_, (rfl : dispatch 0x26#8 = _), rfl⟩
theorem OwnRow.rlaZp (zp : Byte) : OwnRow.Statement (.rlaZp zp) := ⟨_, (rfl : dispatch 0x27#8 = _), rfl⟩
theorem OwnRow.plp : OwnRow.Statement (.plp) := rfl
theorem OwnRow.andImm (v : Byte) : OwnRow.Statement (.andImm v) := ⟨_, (rfl : dispatch 0x29#8 = _), rfl⟩
theorem OwnRow.rolAcc : OwnRow.Statement (.rolAcc) := rfl
theorem OwnRow.bitAbs (addr : Word) : OwnRow.Statement (.bitAbs addr) := ⟨_, (rfl : dispatch 0x2C#8 = _), rfl⟩
theorem OwnRow.andAbs (addr : Word) : OwnRow.Statement (.andAbs addr) := ⟨_, (rfl : dispatch 0x2D#8 = _), rfl⟩
theorem OwnRow.rolAbs (addr : Word) : OwnRow.Statement (.rolAbs addr) := ⟨_, (rfl : dispatch 0x2E#8 = _), rfl⟩
theorem OwnRow.rlaAbs (addr : Word) : OwnRow.Statement (.rlaAbs addr) := ⟨_, (rfl : dispatch 0x2F#8 = _), rfl⟩
theorem OwnRow.bmi (d : Int) : OwnRow.Statement (.bmi d) := ⟨_, (rfl : dispatch 0x30#8 = _), rfl⟩
theorem OwnRow.andIzy (zp : Byte) : OwnRow.Statement (.andIzy zp) := ⟨_, (rfl : dispatch 0x31#8 = _), rfl⟩
theorem OwnRow.rlaIzy (zp : Byte) : OwnRow.Statement (.rlaIzy zp) := ⟨_, (rfl : dispatch 0x33#8 = _), rfl⟩
theorem OwnRow.skbZpx34 (zp : Byte) : OwnRow.Statement (.skbZpx34 zp) := ⟨_, (rfl : dispatch 0x34#8 = _), rfl⟩
theorem OwnRow.andZpx (zp : Byte) : OwnRow.Statement (.andZpx zp) := ⟨_, (rfl : dispatch 0x35#8 = _), rfl⟩
theorem OwnRow.rolZpx (zp : Byte) : OwnRow.Statement (.rolZpx zp) := ⟨_, (rfl : dispatch 0x36#8 = _), rfl⟩
theorem OwnRow.rlaZpx (zp : Byte) : OwnRow.Statement (.rlaZpx zp) := ⟨_, (rfl : dispatch 0x37#8 = _), rfl⟩
theorem OwnRow.sec : OwnRow.Statement (.sec) := rfl
theorem OwnRow.andAby (addr : Word) : OwnRow.Statement (.andAby addr) := ⟨_, (rfl : dispatch 0x39#8 = _), rfl⟩
theorem OwnRow.nop3A : OwnRow.Statement (.nop3A) := rfl
theorem OwnRow.rlaAby (addr : Word) : OwnRow.Statement (.rlaAby addr) := ⟨_, (rfl : dispatch 0x3B#8 = _), rfl⟩
theorem OwnRow.skwAbx3C (addr : Word) : OwnRow.Statement (.skwAbx3C addr) := ⟨_, (rfl : dispatch 0x3C#8 = _), rfl⟩
theorem OwnRow.andAbx (addr : Word) : OwnRow.Statement (.andAbx addr) := ⟨_, (rfl : dispatch 0x3D#8 = _), rfl⟩
theorem OwnRow.rolAbx (addr : Word) : OwnRow.Statement (.rolAbx addr) := ⟨_, (rfl : dispatch 0x3E#8 = _), rfl⟩
theorem OwnRow.rlaAbx (addr : Word) : OwnRow.Statement (.rlaAbx addr) := ⟨_, (rfl : dispatch 0x3F#8 = _), rfl⟩
theorem OwnRow.rti : OwnRow.Statement (.rti) := rfl
theorem OwnRow.eorIzx (zp : Byte) : OwnRow.Statement (.eorIzx zp) := ⟨_, (rfl : dispatch 0x41#8 = _), rfl⟩
theorem OwnRow.sreIzx (zp : Byte) : OwnRow.Statement (.sreIzx zp) := ⟨_, (rfl : dispatch 0x43#8 = _), rfl⟩
theorem OwnRow.skbZp44 (zp : Byte) : OwnRow.Statement (.skbZp44 zp) := ⟨_, (rfl : dispatch 0x44#8 = _), rfl⟩
theorem OwnRow.eorZp (zp : Byte) : OwnRow.Statement (.eorZp zp) := ⟨_, (rfl : dispatch 0x45#8 = _), rfl⟩
theorem OwnRow.lsrZp (zp : Byte) : OwnRow.Statement (.lsrZp zp) := ⟨_, (rfl : dispatch 0x46#8 = _), rfl⟩
theorem OwnRow.sreZp (zp : Byte) : OwnRow.Statement (.sreZp zp) := ⟨_, (rfl : dispatch 0x47#8 = _), rfl⟩
theorem OwnRow.pha : OwnRow.Statement (.pha) := rfl
theorem OwnRow.eorImm (v : Byte) : OwnRow.Statement (.eorImm v) := ⟨_, (rfl : dispatch 0x49#8 = _), rfl⟩
theorem OwnRow.lsrAcc : OwnRow.Statement (.lsrAcc) := rfl
theorem OwnRow.jmpAbs (addr : Word) : OwnRow.Statement (.jmpAbs addr) := ⟨_, (rfl : dispatch 0x4C#8 = _), rfl⟩
theorem OwnRow.eorAbs (addr : Word) : OwnRow.Statement (.eorAbs addr) := ⟨_, (rfl : dispatch 0x4D#8 = _), rfl⟩
theorem OwnRow.lsrAbs (addr : Word) : OwnRow.Statement (.lsrAbs addr) := ⟨_, (rfl : dispatch 0x4E#8 = _), rfl⟩
theorem OwnRow.sreAbs (addr : Word) : OwnRow.Statement (.sreAbs addr) := ⟨_, (rfl : dispatch 0x4F#8 = _), rfl⟩
theorem OwnRow.bvc (d : Int) : OwnRow.Statement (.bvc d) := ⟨_, (rfl : dispatch 0x50#8 = _), rfl⟩
theorem OwnRow.eorIzy (zp : Byte) : OwnRow.Statement (.eorIzy zp) := ⟨_, (rfl : dispatch 0x51#8 = _), rfl⟩
theorem OwnRow.sreIzy (zp : Byte) : OwnRow.Statement (.sreIzy zp) := ⟨_, (rfl : dispatch 0x53#8 = _), rfl⟩
theorem OwnRow.skbZpx54 (zp : Byte) : OwnRow.Statement (.skbZpx54 zp) := ⟨_, (rfl : dispatch 0x54#8 = _), rfl⟩
theorem OwnRow.eorZpx (zp : Byte) : OwnRow.Statement (.eorZpx zp) := ⟨_, (rfl : dispatch 0x55#8 = _), rfl⟩
theorem OwnRow.lsrZpx (zp : Byte) : OwnRow.Statement (.lsrZpx zp) := ⟨_, (rfl : dispatch 0x56#8 = _), rfl⟩
theorem OwnRow.sreZpx (zp : Byte) : OwnRow.Statement (.sreZpx zp) := ⟨_, (rfl : dispatch 0x57#8 = _), rfl⟩
theorem OwnRow.cli : OwnRow.Statement (.cli) := rfl
theorem OwnRow.eorAby (addr : Word) : OwnRow.Statement (.eorAby addr) := ⟨_, (rfl : dispatch 0x59#8 = _), rfl⟩
theorem OwnRow.nop5A : OwnRow.Statement (.nop5A) := rfl
theorem OwnRow.sreAby (addr : Word) : OwnRow.Statement (.sreAby addr) := ⟨_, (rfl : dispatch 0x5B#8 = _), rfl⟩
theorem OwnRow.skwAbx5C (addr : Word) : OwnRow.Statement (.skwAbx5C addr) := ⟨_, (rfl : dispatch 0x5C#8 = _), rfl⟩
theorem OwnRow.eorAbx (addr : Word) : OwnRow.Statement (.eorAbx addr) := ⟨_, (rfl : dispatch 0x5D#8 = _), rfl⟩
theorem OwnRow.lsrAbx (addr : Word) : OwnRow.Statement (.lsrAbx addr) := ⟨_, (rfl : dispatch 0x5E#8 = _), rfl⟩
theorem OwnRow.sreAbx (addr : Word) : OwnRow.Statement (.sreAbx addr) := ⟨_, (rfl : dispatch 0x5F#8 = _), rfl⟩
theorem OwnRow.rts : OwnRow.Statement (.rts) := rfl
theorem OwnRow.adcIzx (zp : Byte) : OwnRow.Statement (.adcIzx zp) := ⟨_, (rfl : dispatch 0x61#8 = _), rfl⟩
theorem OwnRow.rraIzx (zp : Byte) : OwnRow.Statement (.rraIzx zp) := ⟨_, (rfl : dispatch 0x63#8 = _), rfl⟩
theorem OwnRow.skbZp64 (zp : Byte) : OwnRow.Statement (.skbZp64 zp) := ⟨_, (rfl : dispatch 0x64#8 = _), rfl⟩
theorem OwnRow.adcZp (zp : Byte) : OwnRow.Statement (.adcZp zp) := ⟨_, (rfl : dispatch 0x65#8 = _), rfl⟩
theorem OwnRow.rorZp (zp : Byte) : OwnRow.Statement (.rorZp zp) := ⟨_, (rfl : dispatch 0x66#8 = _), rfl⟩
theorem OwnRow.rraZp (zp : Byte) : OwnRow.Statement (.rraZp zp) := ⟨_, (rfl : dispatch 0x67#8 = _), rfl⟩
theorem OwnRow.pla : OwnRow.Statement (.pla) := rfl
theorem OwnRow.adcImm (v : Byte) : OwnRow.Statement (.adcImm v) := ⟨_, (rfl : dispatch 0x69#8 = _), rfl⟩
theorem OwnRow.rorAcc : OwnRow.Statement (.rorAcc) := rfl
theorem OwnRow.jmpInd (ptr : Word) : OwnRow.Statement (.jmpInd ptr) := ⟨_, (rfl : dispatch 0x6C#8 = _), rfl⟩
theorem OwnRow.adcAbs (addr : Word) : OwnRow.Statement (.adcAbs addr) := ⟨_, (rfl : dispatch 0x6D#8 = _), rfl⟩
theorem OwnRow.rorAbs (addr : Word) : OwnRow.Statement (.rorAbs addr) := ⟨_, (rfl : dispatch 0x6E#8 = _), rfl⟩
theorem OwnRow.rraAbs (addr : Word) : OwnRow.Statement (.rraAbs addr) := ⟨_, (rfl : dispatch 0x6F#8 = _), rfl⟩
theorem OwnRow.bvs (d : Int) : OwnRow.Statement (.bvs d) := ⟨_, (rfl : dispatch 0x70#8 = _), rfl⟩
theorem OwnRow.adcIzy (zp : Byte) : OwnRow.Statement (.adcIzy zp) := ⟨_, (rfl : dispatch 0x71#8 = _), rfl⟩
theorem OwnRow.rraIzy (zp : Byte) : OwnRow.Statement (.rraIzy zp) := ⟨_, (rfl : dispatch 0x73#8 = _), rfl⟩
theorem OwnRow.skbZpx74 (zp : Byte) : OwnRow.Statement (.skbZpx74 zp) := ⟨_, (rfl : dispatch 0x74#8 = _), rfl⟩
theorem OwnRow.adcZpx (zp : Byte) : OwnRow.Statement (.adcZpx zp) := ⟨_, (rfl : dispatch 0x75#8 = _), rfl⟩
theorem OwnRow.rorZpx (zp : Byte) : OwnRow.Statement (.rorZpx zp) := ⟨_, (rfl : dispatch 0x76#8 = _), rfl⟩
theorem OwnRow.rraZpx (zp : Byte) : OwnRow.Statement (.rraZpx zp) := ⟨_, (rfl : dispatch 0x77#8 = _), rfl⟩
theorem OwnRow.sei : OwnRow.Statement (.sei) := rfl
theorem OwnRow.adcAby (addr : Word) : OwnRow.Statement (.adcAby addr) := ⟨_, (rfl : dispatch 0x79#8 = _), rfl⟩
theorem OwnRow.nop7A : OwnRow.Statement (.nop7A) := rfl
theorem OwnRow.rraAby (addr : Word) : OwnRow.Statement (.rraAby addr) := ⟨_, (rfl : dispatch 0x7B#8 = _), rfl⟩
theorem OwnRow.skwAbx7C (addr : Word) : OwnRow.Statement (.skwAbx7C addr) := ⟨_, (rfl : dispatch 0x7C#8 = _), rfl⟩
theorem OwnRow.adcAbx (addr : Word) : OwnRow.Statement (.adcAbx addr) := ⟨_, (rfl : dispatch 0x7D#8 = _), rfl⟩
theorem OwnRow.rorAbx (addr : Word) : OwnRow.Statement (.rorAbx addr) := ⟨_, (rfl : dispatch 0x7E#8 = _), rfl⟩
theorem OwnRow.rraAbx (addr : Word) : OwnRow.Statement (.rraAbx addr) := ⟨_, (rfl : dispatch 0x7F#8 = _), rfl⟩
theorem OwnRow.skbImm (v : Byte) : OwnRow.Statement (.skbImm v) := ⟨_, (rfl : dispatch 0x80#8 = _), rfl⟩
theorem OwnRow.staIzx (zp : Byte) : OwnRow.Statement (.staIzx zp) := ⟨_, (rfl : dispatch 0x81#8 = _), rfl⟩
theorem OwnRow.aaxIzx (zp : Byte) : OwnRow.Statement (.aaxIzx zp) := ⟨_, (rfl : dispatch 0x83#8 = _), rfl⟩
theorem OwnRow.styZp (zp : Byte) : OwnRow.Statement (.styZp zp) := ⟨_, (rfl : dispatch 0x84#8 = _), rfl⟩
theorem OwnRow.staZp (zp : Byte) : OwnRow.Statement (.staZp zp) := ⟨_, (rfl : dispatch 0x85#8 = _), rfl⟩
theorem OwnRow.stxZp (zp : Byte) : OwnRow.Statement (.stxZp zp) := ⟨_, (rfl : dispatch 0x86#8 = _), rfl⟩
theorem OwnRow.aaxZp (zp : Byte) : OwnRow.Statement (.aaxZp zp) := ⟨_, (rfl : dispatch 0x87#8 = _), rfl⟩
theorem OwnRow.dey : OwnRow.Statement (.dey) := rfl
theorem OwnRow.txa : OwnRow.Statement (.txa) := rfl
theorem OwnRow.styAbs (addr : Word) : OwnRow.Statement (.styAbs addr) := ⟨_, (rfl : dispatch 0x8C#8 = _), rfl⟩
theorem OwnRow.staAbs (addr : Word) : OwnRow.Statement (.staAbs addr) := ⟨_, (rfl : dispatch 0x8D#8 = _), rfl⟩
theorem OwnRow.stxAbs (addr : Word) : OwnRow.Statement (.stxAbs addr) := ⟨_, (rfl : dispatch 0x8E#8 = _), rfl⟩
theorem OwnRow.aaxAbs (addr : Word) : OwnRow.Statement (.aaxAbs addr) := ⟨_, (rfl : dispatch 0x8F#8 = _), rfl⟩
theorem OwnRow.bcc (d : Int) : OwnRow.Statement (.bcc d) := ⟨_, (rfl : dispatch 0x90#8 = _), rfl⟩
theorem OwnRow.staIzy (zp : Byte) : OwnRow.Statement (.staIzy zp) := ⟨_, (rfl : dispatch 0x91#8 = _), rfl⟩
theorem OwnRow.styZpx (zp : Byte) : OwnRow.Statement (.styZpx zp) := ⟨_, (rfl : dispatch 0x94#8 = _), rfl⟩
theorem OwnRow.staZpx (zp : Byte) : OwnRow.Statement (.staZpx zp) := ⟨_, (rfl : dispatch 0x95#8 = _), rfl⟩
theorem OwnRow.stxZpy (zp : Byte) : OwnRow.Statement (.stxZpy zp) := ⟨_, (rfl : dispatch 0x96#8 = _), rfl⟩
theorem OwnRow.aaxZpy (zp : Byte) : OwnRow.Statement (.aaxZpy zp) := ⟨_, (rfl : dispatch 0x97#8 = _), rfl⟩
theorem OwnRow.tya : OwnRow.Statement (.tya) := rfl
theorem OwnRow.staAby (addr : Word) : OwnRow.Statement (.staAby addr) := ⟨_, (rfl : dispatch 0x99#8 = _), rfl⟩
theorem OwnRow.txs : OwnRow.Statement (.txs) := rfl
theorem OwnRow.staAbx (addr : Word) : OwnRow.Statement (.staAbx addr) := ⟨_, (rfl : dispatch 0x9D#8 = _), rfl⟩
theorem OwnRow.ldyImm (v : Byte) : OwnRow.Statement (.ldyImm v) := ⟨_, (rfl : dispatch 0xA0#8 = _), rfl⟩
theorem OwnRow.ldaIzx (zp : Byte) : OwnRow.Statement (.ldaIzx zp) := ⟨_, (rfl : dispatch 0xA1#8 = _), rfl⟩
theorem OwnRow.ldxImm (v : Byte) : OwnRow.Statement (.ldxImm v) := ⟨_, (rfl : dispatch 0xA2#8 = _), rfl⟩
theorem OwnRow.laxIzx (zp : Byte) : OwnRow.Statement (.laxIzx zp) := ⟨_, (rfl : dispatch 0xA3#8 = _), rfl⟩
theorem OwnRow.ldyZp (zp : Byte) : OwnRow.Statement (.ldyZp zp) := ⟨_, (rfl : dispatch 0xA4#8 = _), rfl⟩
theorem OwnRow.ldaZp (zp : Byte) : OwnRow.Statement (.ldaZp zp) := ⟨_, (rfl : dispatch 0xA5#8 = _), rfl⟩
theorem OwnRow.ldxZp (zp : Byte) : OwnRow.Statement (.ldxZp zp) := ⟨_, (rfl : dispatch 0xA6#8 = _), rfl⟩
theorem OwnRow.laxZp (zp : Byte) : OwnRow.Statement (.laxZp zp) := ⟨_, (rfl : dispatch 0xA7#8 = _), rfl⟩
theorem OwnRow.tay : OwnRow.Statement (.tay) := rfl
theorem OwnRow.ldaImm (v : Byte) : OwnRow.Statement (.ldaImm v) := ⟨_, (rfl : dispatch 0xA9#8 = _), rfl⟩
theorem OwnRow.tax : OwnRow.Statement (.tax) := rfl
theorem OwnRow.ldyAbs (addr : Word) : OwnRow.Statement (.ldyAbs addr) := ⟨_, (rfl : dispatch 0xAC#8 = _), rfl⟩
theorem OwnRow.ldaAbs (addr : Word) : OwnRow.Statement (.ldaAbs addr) := ⟨_, (rfl : dispatch 0xAD#8 = _), rfl⟩
theorem OwnRow.ldxAbs (addr : Word) : OwnRow.Statement (.ldxAbs addr) := ⟨_, (rfl : dispatch 0xAE#8 = _), rfl⟩
theorem OwnRow.laxAbs (addr : Word) : OwnRow.Statement (.laxAbs addr) := ⟨_, (rfl : dispatch 0xAF#8 = _), rfl⟩
theorem OwnRow.bcs (d : Int) : OwnRow.Statement (.bcs d) := ⟨_, (rfl : dispatch 0xB0#8 = _), rfl⟩
theorem OwnRow.ldaIzy (zp : Byte) : OwnRow.Statement (.ldaIzy zp) := ⟨_, (rfl : dispatch 0xB1#8 = _), rfl⟩
theorem OwnRow.laxIzy (zp : Byte) : OwnRow.Statement (.laxIzy zp) := ⟨_, (rfl : dispatch 0xB3#8 = _), rfl⟩
theorem OwnRow.ldyZpx (zp : Byte) : OwnRow.Statement (.ldyZpx zp) := ⟨_, (rfl : dispatch 0xB4#8 = _), rfl⟩
theorem OwnRow.ldaZpx (zp : Byte) : OwnRow.Statement (.ldaZpx zp) := ⟨_, (rfl : dispatch 0xB5#8 = _), rfl⟩
theorem OwnRow.ldxZpy (zp : Byte) : OwnRow.Statement (.ldxZpy zp) := ⟨_, (rfl : dispatch 0xB6#8 = _), rfl⟩
theorem OwnRow.laxZpy (zp : Byte) : OwnRow.Statement (.laxZpy zp) := ⟨_, (rfl : dispatch 0xB7#8 = _), rfl⟩
theorem OwnRow.clv : OwnRow.Statement (.clv) := rfl
theorem OwnRow.ldaAby (addr : Word) : OwnRow.Statement (.ldaAby addr) := ⟨_, (rfl : dispatch 0xB9#8 = _), rfl⟩
theorem OwnRow.tsx : OwnRow.Statement (.tsx) := rfl
theorem OwnRow.ldyAbx (addr : Word) : OwnRow.Statement (.ldyAbx addr) := ⟨_, (rfl : dispatch 0xBC#8 = _), rfl⟩
theorem OwnRow.ldaAbx (addr : Word) : OwnRow.Statement (.ldaAbx addr) := ⟨_, (rfl : dispatch 0xBD#8 = _), rfl⟩
theorem OwnRow.ldxAby (addr : Word) : OwnRow.Statement (.ldxAby addr) := ⟨_, (rfl : dispatch 0xBE#8 = _), rfl⟩
theorem OwnRow.laxAby (addr : Word) : OwnRow.Statement (.laxAby addr) := ⟨_, (rfl : dispatch 0xBF#8 = _), rfl⟩
theorem OwnRow.cpyImm (v : Byte) : OwnRow.Statement (.cpyImm v) := ⟨_, (rfl : dispatch 0xC0#8 = _), rfl⟩
theorem OwnRow.cmpIzx (zp : Byte) : OwnRow.Statement (.cmpIzx zp) := ⟨_, (rfl : dispatch 0xC1#8 = _), rfl⟩
theorem OwnRow.dcpIzx (zp : Byte) : OwnRow.Statement (.dcpIzx zp) := ⟨_, (rfl : dispatch 0xC3#8 = _), rfl⟩
theorem OwnRow.cpyZp (zp : Byte) : OwnRow.Statement (.cpyZp zp) := ⟨_, (rfl : dispatch 0xC4#8 = _), rfl⟩
theorem OwnRow.cmpZp (zp : Byte) : OwnRow.Statement (.cmpZp zp) := ⟨_, (rfl : dispatch 0xC5#8 = _), rfl⟩
theorem OwnRow.decZp (zp : Byte) : OwnRow.Statement (.decZp zp) := ⟨_, (rfl : dispatch 0xC6#8 = _), rfl⟩
theorem OwnRow.dcpZp (zp : Byte) : OwnRow.Statement (.dcpZp zp) := ⟨_, (rfl : dispatch 0xC7#8 = _), rfl⟩
theorem OwnRow.iny : OwnRow.Statement (.iny) := rfl
theorem OwnRow.cmpImm (v : Byte) : OwnRow.Statement (.cmpImm v) := ⟨_, (rfl : dispatch 0xC9#8 = _), rfl⟩
theorem OwnRow.dex : OwnRow.Statement (.dex) := rfl
theorem OwnRow.cpyAbs (addr : Word) : OwnRow.Statement (.cpyAbs addr) := ⟨_, (rfl : dispatch 0xCC#8 = _), rfl⟩
theorem OwnRow.cmpAbs (addr : Word) : OwnRow.Statement (.cmpAbs addr) := ⟨_, (rfl : dispatch 0xCD#8 = _), rfl⟩
theorem OwnRow.decAbs (addr : Word) : OwnRow.Statement (.decAbs addr) := ⟨_, (rfl : dispatch 0xCE#8 = _), rfl⟩
theorem OwnRow.dcpAbs (addr : Word) : OwnRow.Statement (.dcpAbs addr) := ⟨_, (rfl : dispatch 0xCF#8 = _), rfl⟩
theorem OwnRow.bne (d : Int) : OwnRow.Statement (.bne d) := ⟨_, (rfl : dispatch 0xD0#8 = _), rfl⟩
theorem OwnRow.cmpIzy (zp : Byte) : OwnRow.Statement (.cmpIzy zp) := ⟨_, (rfl : dispatch 0xD1#8 = _), rfl⟩
theorem OwnRow.dcpIzy (zp : Byte) : OwnRow.Statement (.dcpIzy zp) := ⟨_, (rfl : dispatch 0xD3#8 = _), rfl⟩
theorem OwnRow.skbZpxD4 (zp : Byte) : OwnRow.Statement (.skbZpxD4 zp) := ⟨_, (rfl : dispatch 0xD4#8 = _), rfl⟩
theorem OwnRow.cmpZpx (zp : Byte) : OwnRow.Statement (.cmpZpx zp) := ⟨_, (rfl : dispatch 0xD5#8 = _), rfl⟩
theorem OwnRow.decZpx (zp : Byte) : OwnRow.Statement (.decZpx zp) := ⟨_, (rfl : dispatch 0xD6#8 = _), rfl⟩
theorem OwnRow.dcpZpx (zp : Byte) : OwnRow.Statement (.dcpZpx zp) := ⟨_, (rfl : dispatch 0xD7#8 = _), rfl⟩
theorem OwnRow.cld : OwnRow.Statement (.cld) := rfl
theorem OwnRow.cmpAby (addr : Word) : OwnRow.Statement (.cmpAby addr) := ⟨_, (rfl : dispatch 0xD9#8 = _), rfl⟩
theorem OwnRow.nopDA : OwnRow.Statement (.nopDA) := rfl
theorem OwnRow.dcpAby (addr : Word) : OwnRow.Statement (.dcpAby addr) := ⟨_, (rfl : dispatch 0xDB#8 = _), rfl⟩
theorem OwnRow.skwAbxDC (addr : Word) : OwnRow.Statement (.skwAbxDC addr) := ⟨_, (rfl : dispatch 0xDC#8 = _), rfl⟩
theorem OwnRow.cmpAbx (addr : Word) : OwnRow.Statement (.cmpAbx addr) := ⟨_, (rfl : dispatch 0xDD#8 = _), rfl⟩
theorem OwnRow.decAbx (addr : Word) : OwnRow.Statement (.decAbx addr) := ⟨_, (rfl : dispatch 0xDE#8 = _), rfl⟩
theorem OwnRow.dcpAbx (addr : Word) : OwnRow.Statement (.dcpAbx addr) := ⟨_, (rfl : dispatch 0xDF#8 = _), rfl⟩
theorem OwnRow.cpxImm (v : Byte) : OwnRow.Statement (.cpxImm v) := ⟨_, (rfl : dispatch 0xE0#8 = _), rfl⟩
theorem OwnRow.sbcIzx (zp : Byte) : OwnRow.Statement (.sbcIzx zp) := ⟨_, (rfl : dispatch 0xE1#8 = _), rfl⟩
theorem OwnRow.iscIzx (zp : Byte) : OwnRow.Statement (.iscIzx zp) := ⟨_, (rfl : dispatch 0xE3#8 = _), rfl⟩
theorem OwnRow.cpxZp (zp : Byte) : OwnRow.Statement (.cpxZp zp) := ⟨_, (rfl : dispatch 0xE4#8 = _), rfl⟩
theorem OwnRow.sbcZp (zp : Byte) : OwnRow.Statement (.sbcZp zp) := ⟨_, (rfl : dispatch 0xE5#8 = _), rfl⟩
theorem OwnRow.incZp (zp : Byte) : OwnRow.Statement (.incZp zp) := ⟨_, (rfl : dispatch 0xE6#8 = _), rfl⟩
theorem OwnRow.iscZp (zp : Byte) : OwnRow.Statement (.iscZp zp) := ⟨_, (rfl : dispatch 0xE7#8 = _), rfl⟩
theorem OwnRow.inx : OwnRow.Statement (.inx) := rfl
theorem OwnRow.sbcImm (v : Byte) : OwnRow.Statement (.sbcImm v) := ⟨_, (rfl : dispatch 0xE9#8 = _), rfl⟩
theorem OwnRow.nop : OwnRow.Statement (.nop) := rfl
theorem OwnRow.sbcImmEB (v : Byte) : OwnRow.Statement (.sbcImmEB v) := ⟨_, (rfl : dispatch 0xEB#8 = _), rfl⟩
theorem OwnRow.cpxAbs (addr : Word) : OwnRow.Statement (.cpxAbs addr) := ⟨_, (rfl : dispatch 0xEC#8 = _), rfl⟩
theorem OwnRow.sbcAbs (addr : Word) : OwnRow.Statement (.sbcAbs addr) := ⟨_, (rfl : dispatch 0xED#8 = _), rfl⟩
theorem OwnRow.incAbs (addr : Word) : OwnRow.Statement (.incAbs addr) := ⟨_, (rfl : dispatch 0xEE#8 = _), rfl⟩
theorem OwnRow.iscAbs (addr : Word) : OwnRow.Statement (.iscAbs addr) := ⟨_, (rfl : dispatch 0xEF#8 = _), rfl⟩
theorem OwnRow.beq (d : Int) : OwnRow.Statement (.beq d) := ⟨_, (rfl : dispatch 0xF0#8 = _), rfl⟩
theorem OwnRow.sbcIzy (zp : Byte) : OwnRow.Statement (.sbcIzy zp) := ⟨_, (rfl : dispatch 0xF1#8 = _), rfl⟩
theorem OwnRow.iscIzy (zp : Byte) : OwnRow.Statement (.iscIzy zp) := ⟨_, (rfl : dispatch 0xF3#8 = _), rfl⟩
theorem OwnRow.skbZpxF4 (zp : Byte) : OwnRow.Statement (.skbZpxF4 zp) := ⟨_, (rfl : dispatch 0xF4#8 = _), rfl⟩
theorem OwnRow.sbcZpx (zp : Byte) : OwnRow.Statement (.sbcZpx zp) := ⟨_, (rfl : dispatch 0xF5#8 = _), rfl⟩
theorem OwnRow.incZpx (zp : Byte) : OwnRow.Statement (.incZpx zp) := ⟨_, (rfl : dispatch 0xF6#8 = _), rfl⟩
theorem OwnRow.iscZpx (zp : Byte) : OwnRow.Statement (.iscZpx zp) := ⟨_, (rfl : dispatch 0xF7#8 = _), rfl⟩
theorem OwnRow.sed : OwnRow.Statement (.sed) := rfl
theorem OwnRow.sbcAby (addr : Word) : OwnRow.Statement (.sbcAby addr) := ⟨_, (rfl : dispatch 0xF9#8 = _), rfl⟩
theorem OwnRow.nopFA : OwnRow.Statement (.nopFA) := rfl
theorem OwnRow.iscAby (addr : Word) : OwnRow.Statement (.iscAby addr) := ⟨_, (rfl : dispatch 0xFB#8 = _), rfl⟩
theorem OwnRow.skwAbxFC (addr : Word) : OwnRow.Statement (.skwAbxFC addr) := ⟨_, (rfl : dispatch 0xFC#8 = _), rfl⟩
theorem OwnRow.sbcAbx (addr : Word) : OwnRow.Statement (.sbcAbx addr) := ⟨_, (rfl : dispatch 0xFD#8 = _), rfl⟩
theorem OwnRow.incAbx (addr : Word) : OwnRow.Statement (.incAbx addr) := ⟨_, (rfl : dispatch 0xFE#8 = _), rfl⟩
theorem OwnRow.iscAbx (addr : Word) : OwnRow.Statement (.iscAbx addr) := ⟨_, (rfl : dispatch 0xFF#8 = _), rfl⟩

end Sys2Proof.Laws
end

