-- ==== Sys2Proof/Tests/Slice0.lean ====
section
/-! SUPPORT. Tests and witnesses. The expected results are taken from outside the model: the words from
30_encoding.md and opcode_table.json, the results from the vectors of 95_test_vectors.md, whose section and number each
test names. Then, for each statement with hypotheses, a witness that meets all of them together. -/

namespace Sys2Proof.Machine.Tests

/-- `s` with these bytes in a 16 KB image, from `PC` on. -/
def code (bytes : List Byte) (s : State) : State :=
  { s with prg := .shared (Memory.writeSlice [] (s.pc.toNat % 0x4000) bytes) }

/-- The flags of a packed status byte. -/
def flags (p : Byte) : Flags := Flags.reset.unpack .load p

/-- One step answers a next state that passes the check. -/
def after (s : State) (check : State → Bool) : Bool :=
  match step s with
  | .next t => check t
  | _ => false

/-- One step answers this fault. -/
def faults (s : State) (f : Fault) : Bool :=
  match step s with
  | .fault g => decide (g = f)
  | _ => false

/-- The words decode, and encode back. -/
def wordsDecode (rows : List (List Byte × Instr)) : Bool :=
  rows.all fun row => decide (decode row.1 = .ok (row.2, [])) && decide (encode row.2 = row.1) && row.2.wf

/-! The checks of `Instr.wf`, on ill-formed terms: a branch's offset outside a signed byte. -/

theorem test_wf_bpl : (Instr.bpl 128).wf = false ∧ (Instr.bpl (-129)).wf = false := by decide
theorem test_wf_bmi : (Instr.bmi 128).wf = false ∧ (Instr.bmi (-129)).wf = false := by decide
theorem test_wf_bvc : (Instr.bvc 128).wf = false ∧ (Instr.bvc (-129)).wf = false := by decide
theorem test_wf_bvs : (Instr.bvs 128).wf = false ∧ (Instr.bvs (-129)).wf = false := by decide
theorem test_wf_bcc : (Instr.bcc 128).wf = false ∧ (Instr.bcc (-129)).wf = false := by decide
theorem test_wf_bcs : (Instr.bcs 128).wf = false ∧ (Instr.bcs (-129)).wf = false := by decide
theorem test_wf_bne : (Instr.bne 128).wf = false ∧ (Instr.bne (-129)).wf = false := by decide
theorem test_wf_beq : (Instr.beq 128).wf = false ∧ (Instr.beq (-129)).wf = false := by decide
theorem test_wf_ends : (Instr.bne 127).wf = true ∧ (Instr.bne (-128)).wf = true := by decide

/-! Decoding, every row of the opcode table: its opcode byte and the operand bytes 85 (12), the word 0x1285. -/

theorem test_decode_0x : wordsDecode
    [([0x00#8], .hlt), ([0x01#8, 0x85#8], .oraIzx 0x85#8), ([0x03#8, 0x85#8], .sloIzx 0x85#8),
     ([0x04#8, 0x85#8], .skbZp04 0x85#8), ([0x05#8, 0x85#8], .oraZp 0x85#8),
     ([0x06#8, 0x85#8], .aslZp 0x85#8), ([0x07#8, 0x85#8], .sloZp 0x85#8), ([0x08#8], .php),
     ([0x09#8, 0x85#8], .oraImm 0x85#8), ([0x0A#8], .aslAcc),
     ([0x0C#8, 0x85#8, 0x12#8], .skwAbs 0x1285#16),
     ([0x0D#8, 0x85#8, 0x12#8], .oraAbs 0x1285#16),
     ([0x0E#8, 0x85#8, 0x12#8], .aslAbs 0x1285#16),
     ([0x0F#8, 0x85#8, 0x12#8], .sloAbs 0x1285#16)] = true := by decide +kernel
theorem test_decode_1x : wordsDecode
    [([0x10#8, 0x85#8], .bpl (-123)), ([0x11#8, 0x85#8], .oraIzy 0x85#8),
     ([0x13#8, 0x85#8], .sloIzy 0x85#8), ([0x14#8, 0x85#8], .skbZpx14 0x85#8),
     ([0x15#8, 0x85#8], .oraZpx 0x85#8), ([0x16#8, 0x85#8], .aslZpx 0x85#8),
     ([0x17#8, 0x85#8], .sloZpx 0x85#8), ([0x18#8], .clc),
     ([0x19#8, 0x85#8, 0x12#8], .oraAby 0x1285#16), ([0x1A#8], .nop1A),
     ([0x1B#8, 0x85#8, 0x12#8], .sloAby 0x1285#16),
     ([0x1C#8, 0x85#8, 0x12#8], .skwAbx1C 0x1285#16),
     ([0x1D#8, 0x85#8, 0x12#8], .oraAbx 0x1285#16),
     ([0x1E#8, 0x85#8, 0x12#8], .aslAbx 0x1285#16),
     ([0x1F#8, 0x85#8, 0x12#8], .sloAbx 0x1285#16)] = true := by decide +kernel
theorem test_decode_2x : wordsDecode
    [([0x20#8, 0x85#8, 0x12#8], .jsr 0x1285#16), ([0x21#8, 0x85#8], .andIzx 0x85#8),
     ([0x23#8, 0x85#8], .rlaIzx 0x85#8), ([0x24#8, 0x85#8], .bitZp 0x85#8),
     ([0x25#8, 0x85#8], .andZp 0x85#8), ([0x26#8, 0x85#8], .rolZp 0x85#8),
     ([0x27#8, 0x85#8], .rlaZp 0x85#8), ([0x28#8], .plp), ([0x29#8, 0x85#8], .andImm 0x85#8),
     ([0x2A#8], .rolAcc), ([0x2C#8, 0x85#8, 0x12#8], .bitAbs 0x1285#16),
     ([0x2D#8, 0x85#8, 0x12#8], .andAbs 0x1285#16),
     ([0x2E#8, 0x85#8, 0x12#8], .rolAbs 0x1285#16),
     ([0x2F#8, 0x85#8, 0x12#8], .rlaAbs 0x1285#16)] = true := by decide +kernel
theorem test_decode_3x : wordsDecode
    [([0x30#8, 0x85#8], .bmi (-123)), ([0x31#8, 0x85#8], .andIzy 0x85#8),
     ([0x33#8, 0x85#8], .rlaIzy 0x85#8), ([0x34#8, 0x85#8], .skbZpx34 0x85#8),
     ([0x35#8, 0x85#8], .andZpx 0x85#8), ([0x36#8, 0x85#8], .rolZpx 0x85#8),
     ([0x37#8, 0x85#8], .rlaZpx 0x85#8), ([0x38#8], .sec),
     ([0x39#8, 0x85#8, 0x12#8], .andAby 0x1285#16), ([0x3A#8], .nop3A),
     ([0x3B#8, 0x85#8, 0x12#8], .rlaAby 0x1285#16),
     ([0x3C#8, 0x85#8, 0x12#8], .skwAbx3C 0x1285#16),
     ([0x3D#8, 0x85#8, 0x12#8], .andAbx 0x1285#16),
     ([0x3E#8, 0x85#8, 0x12#8], .rolAbx 0x1285#16),
     ([0x3F#8, 0x85#8, 0x12#8], .rlaAbx 0x1285#16)] = true := by decide +kernel
theorem test_decode_4x : wordsDecode
    [([0x40#8], .rti), ([0x41#8, 0x85#8], .eorIzx 0x85#8), ([0x43#8, 0x85#8], .sreIzx 0x85#8),
     ([0x44#8, 0x85#8], .skbZp44 0x85#8), ([0x45#8, 0x85#8], .eorZp 0x85#8),
     ([0x46#8, 0x85#8], .lsrZp 0x85#8), ([0x47#8, 0x85#8], .sreZp 0x85#8), ([0x48#8], .pha),
     ([0x49#8, 0x85#8], .eorImm 0x85#8), ([0x4A#8], .lsrAcc),
     ([0x4C#8, 0x85#8, 0x12#8], .jmpAbs 0x1285#16),
     ([0x4D#8, 0x85#8, 0x12#8], .eorAbs 0x1285#16),
     ([0x4E#8, 0x85#8, 0x12#8], .lsrAbs 0x1285#16),
     ([0x4F#8, 0x85#8, 0x12#8], .sreAbs 0x1285#16)] = true := by decide +kernel
theorem test_decode_5x : wordsDecode
    [([0x50#8, 0x85#8], .bvc (-123)), ([0x51#8, 0x85#8], .eorIzy 0x85#8),
     ([0x53#8, 0x85#8], .sreIzy 0x85#8), ([0x54#8, 0x85#8], .skbZpx54 0x85#8),
     ([0x55#8, 0x85#8], .eorZpx 0x85#8), ([0x56#8, 0x85#8], .lsrZpx 0x85#8),
     ([0x57#8, 0x85#8], .sreZpx 0x85#8), ([0x58#8], .cli),
     ([0x59#8, 0x85#8, 0x12#8], .eorAby 0x1285#16), ([0x5A#8], .nop5A),
     ([0x5B#8, 0x85#8, 0x12#8], .sreAby 0x1285#16),
     ([0x5C#8, 0x85#8, 0x12#8], .skwAbx5C 0x1285#16),
     ([0x5D#8, 0x85#8, 0x12#8], .eorAbx 0x1285#16),
     ([0x5E#8, 0x85#8, 0x12#8], .lsrAbx 0x1285#16),
     ([0x5F#8, 0x85#8, 0x12#8], .sreAbx 0x1285#16)] = true := by decide +kernel
theorem test_decode_6x : wordsDecode
    [([0x60#8], .rts), ([0x61#8, 0x85#8], .adcIzx 0x85#8), ([0x63#8, 0x85#8], .rraIzx 0x85#8),
     ([0x64#8, 0x85#8], .skbZp64 0x85#8), ([0x65#8, 0x85#8], .adcZp 0x85#8),
     ([0x66#8, 0x85#8], .rorZp 0x85#8), ([0x67#8, 0x85#8], .rraZp 0x85#8), ([0x68#8], .pla),
     ([0x69#8, 0x85#8], .adcImm 0x85#8), ([0x6A#8], .rorAcc),
     ([0x6C#8, 0x85#8, 0x12#8], .jmpInd 0x1285#16),
     ([0x6D#8, 0x85#8, 0x12#8], .adcAbs 0x1285#16),
     ([0x6E#8, 0x85#8, 0x12#8], .rorAbs 0x1285#16),
     ([0x6F#8, 0x85#8, 0x12#8], .rraAbs 0x1285#16)] = true := by decide +kernel
theorem test_decode_7x : wordsDecode
    [([0x70#8, 0x85#8], .bvs (-123)), ([0x71#8, 0x85#8], .adcIzy 0x85#8),
     ([0x73#8, 0x85#8], .rraIzy 0x85#8), ([0x74#8, 0x85#8], .skbZpx74 0x85#8),
     ([0x75#8, 0x85#8], .adcZpx 0x85#8), ([0x76#8, 0x85#8], .rorZpx 0x85#8),
     ([0x77#8, 0x85#8], .rraZpx 0x85#8), ([0x78#8], .sei),
     ([0x79#8, 0x85#8, 0x12#8], .adcAby 0x1285#16), ([0x7A#8], .nop7A),
     ([0x7B#8, 0x85#8, 0x12#8], .rraAby 0x1285#16),
     ([0x7C#8, 0x85#8, 0x12#8], .skwAbx7C 0x1285#16),
     ([0x7D#8, 0x85#8, 0x12#8], .adcAbx 0x1285#16),
     ([0x7E#8, 0x85#8, 0x12#8], .rorAbx 0x1285#16),
     ([0x7F#8, 0x85#8, 0x12#8], .rraAbx 0x1285#16)] = true := by decide +kernel
theorem test_decode_8x : wordsDecode
    [([0x80#8, 0x85#8], .skbImm 0x85#8), ([0x81#8, 0x85#8], .staIzx 0x85#8),
     ([0x83#8, 0x85#8], .aaxIzx 0x85#8), ([0x84#8, 0x85#8], .styZp 0x85#8),
     ([0x85#8, 0x85#8], .staZp 0x85#8), ([0x86#8, 0x85#8], .stxZp 0x85#8),
     ([0x87#8, 0x85#8], .aaxZp 0x85#8), ([0x88#8], .dey), ([0x8A#8], .txa),
     ([0x8C#8, 0x85#8, 0x12#8], .styAbs 0x1285#16),
     ([0x8D#8, 0x85#8, 0x12#8], .staAbs 0x1285#16),
     ([0x8E#8, 0x85#8, 0x12#8], .stxAbs 0x1285#16),
     ([0x8F#8, 0x85#8, 0x12#8], .aaxAbs 0x1285#16)] = true := by decide +kernel
theorem test_decode_9x : wordsDecode
    [([0x90#8, 0x85#8], .bcc (-123)), ([0x91#8, 0x85#8], .staIzy 0x85#8),
     ([0x94#8, 0x85#8], .styZpx 0x85#8), ([0x95#8, 0x85#8], .staZpx 0x85#8),
     ([0x96#8, 0x85#8], .stxZpy 0x85#8), ([0x97#8, 0x85#8], .aaxZpy 0x85#8), ([0x98#8], .tya),
     ([0x99#8, 0x85#8, 0x12#8], .staAby 0x1285#16), ([0x9A#8], .txs),
     ([0x9D#8, 0x85#8, 0x12#8], .staAbx 0x1285#16)] = true := by decide +kernel
theorem test_decode_Ax : wordsDecode
    [([0xA0#8, 0x85#8], .ldyImm 0x85#8), ([0xA1#8, 0x85#8], .ldaIzx 0x85#8),
     ([0xA2#8, 0x85#8], .ldxImm 0x85#8), ([0xA3#8, 0x85#8], .laxIzx 0x85#8),
     ([0xA4#8, 0x85#8], .ldyZp 0x85#8), ([0xA5#8, 0x85#8], .ldaZp 0x85#8),
     ([0xA6#8, 0x85#8], .ldxZp 0x85#8), ([0xA7#8, 0x85#8], .laxZp 0x85#8), ([0xA8#8], .tay),
     ([0xA9#8, 0x85#8], .ldaImm 0x85#8), ([0xAA#8], .tax),
     ([0xAC#8, 0x85#8, 0x12#8], .ldyAbs 0x1285#16),
     ([0xAD#8, 0x85#8, 0x12#8], .ldaAbs 0x1285#16),
     ([0xAE#8, 0x85#8, 0x12#8], .ldxAbs 0x1285#16),
     ([0xAF#8, 0x85#8, 0x12#8], .laxAbs 0x1285#16)] = true := by decide +kernel
theorem test_decode_Bx : wordsDecode
    [([0xB0#8, 0x85#8], .bcs (-123)), ([0xB1#8, 0x85#8], .ldaIzy 0x85#8),
     ([0xB3#8, 0x85#8], .laxIzy 0x85#8), ([0xB4#8, 0x85#8], .ldyZpx 0x85#8),
     ([0xB5#8, 0x85#8], .ldaZpx 0x85#8), ([0xB6#8, 0x85#8], .ldxZpy 0x85#8),
     ([0xB7#8, 0x85#8], .laxZpy 0x85#8), ([0xB8#8], .clv),
     ([0xB9#8, 0x85#8, 0x12#8], .ldaAby 0x1285#16), ([0xBA#8], .tsx),
     ([0xBC#8, 0x85#8, 0x12#8], .ldyAbx 0x1285#16),
     ([0xBD#8, 0x85#8, 0x12#8], .ldaAbx 0x1285#16),
     ([0xBE#8, 0x85#8, 0x12#8], .ldxAby 0x1285#16),
     ([0xBF#8, 0x85#8, 0x12#8], .laxAby 0x1285#16)] = true := by decide +kernel
theorem test_decode_Cx : wordsDecode
    [([0xC0#8, 0x85#8], .cpyImm 0x85#8), ([0xC1#8, 0x85#8], .cmpIzx 0x85#8),
     ([0xC3#8, 0x85#8], .dcpIzx 0x85#8), ([0xC4#8, 0x85#8], .cpyZp 0x85#8),
     ([0xC5#8, 0x85#8], .cmpZp 0x85#8), ([0xC6#8, 0x85#8], .decZp 0x85#8),
     ([0xC7#8, 0x85#8], .dcpZp 0x85#8), ([0xC8#8], .iny), ([0xC9#8, 0x85#8], .cmpImm 0x85#8),
     ([0xCA#8], .dex), ([0xCC#8, 0x85#8, 0x12#8], .cpyAbs 0x1285#16),
     ([0xCD#8, 0x85#8, 0x12#8], .cmpAbs 0x1285#16),
     ([0xCE#8, 0x85#8, 0x12#8], .decAbs 0x1285#16),
     ([0xCF#8, 0x85#8, 0x12#8], .dcpAbs 0x1285#16)] = true := by decide +kernel
theorem test_decode_Dx : wordsDecode
    [([0xD0#8, 0x85#8], .bne (-123)), ([0xD1#8, 0x85#8], .cmpIzy 0x85#8),
     ([0xD3#8, 0x85#8], .dcpIzy 0x85#8), ([0xD4#8, 0x85#8], .skbZpxD4 0x85#8),
     ([0xD5#8, 0x85#8], .cmpZpx 0x85#8), ([0xD6#8, 0x85#8], .decZpx 0x85#8),
     ([0xD7#8, 0x85#8], .dcpZpx 0x85#8), ([0xD8#8], .cld),
     ([0xD9#8, 0x85#8, 0x12#8], .cmpAby 0x1285#16), ([0xDA#8], .nopDA),
     ([0xDB#8, 0x85#8, 0x12#8], .dcpAby 0x1285#16),
     ([0xDC#8, 0x85#8, 0x12#8], .skwAbxDC 0x1285#16),
     ([0xDD#8, 0x85#8, 0x12#8], .cmpAbx 0x1285#16),
     ([0xDE#8, 0x85#8, 0x12#8], .decAbx 0x1285#16),
     ([0xDF#8, 0x85#8, 0x12#8], .dcpAbx 0x1285#16)] = true := by decide +kernel
theorem test_decode_Ex : wordsDecode
    [([0xE0#8, 0x85#8], .cpxImm 0x85#8), ([0xE1#8, 0x85#8], .sbcIzx 0x85#8),
     ([0xE3#8, 0x85#8], .iscIzx 0x85#8), ([0xE4#8, 0x85#8], .cpxZp 0x85#8),
     ([0xE5#8, 0x85#8], .sbcZp 0x85#8), ([0xE6#8, 0x85#8], .incZp 0x85#8),
     ([0xE7#8, 0x85#8], .iscZp 0x85#8), ([0xE8#8], .inx), ([0xE9#8, 0x85#8], .sbcImm 0x85#8),
     ([0xEA#8], .nop), ([0xEB#8, 0x85#8], .sbcImmEB 0x85#8),
     ([0xEC#8, 0x85#8, 0x12#8], .cpxAbs 0x1285#16),
     ([0xED#8, 0x85#8, 0x12#8], .sbcAbs 0x1285#16),
     ([0xEE#8, 0x85#8, 0x12#8], .incAbs 0x1285#16),
     ([0xEF#8, 0x85#8, 0x12#8], .iscAbs 0x1285#16)] = true := by decide +kernel
theorem test_decode_Fx : wordsDecode
    [([0xF0#8, 0x85#8], .beq (-123)), ([0xF1#8, 0x85#8], .sbcIzy 0x85#8),
     ([0xF3#8, 0x85#8], .iscIzy 0x85#8), ([0xF4#8, 0x85#8], .skbZpxF4 0x85#8),
     ([0xF5#8, 0x85#8], .sbcZpx 0x85#8), ([0xF6#8, 0x85#8], .incZpx 0x85#8),
     ([0xF7#8, 0x85#8], .iscZpx 0x85#8), ([0xF8#8], .sed),
     ([0xF9#8, 0x85#8, 0x12#8], .sbcAby 0x1285#16), ([0xFA#8], .nopFA),
     ([0xFB#8, 0x85#8, 0x12#8], .iscAby 0x1285#16),
     ([0xFC#8, 0x85#8, 0x12#8], .skwAbxFC 0x1285#16),
     ([0xFD#8, 0x85#8, 0x12#8], .sbcAbx 0x1285#16),
     ([0xFE#8, 0x85#8, 0x12#8], .incAbx 0x1285#16),
     ([0xFF#8, 0x85#8, 0x12#8], .iscAbx 0x1285#16)] = true := by decide +kernel

/-! Addressing modes (section 2). -/

theorem test_AM1_lda : after (code [0xA9#8, 0x42#8] State.reset)
    (fun t => decide (t.a = 0x42#8 ∧ t.ppu.cycle = 6)) = true := by decide
theorem test_AM2_lda : after (code [0xA5#8, 0x10#8] { State.reset with wram := [(0x010, 0x99#8)] })
    (fun t => decide (t.a = 0x99#8 ∧ t.p.pack = 0xA4#8 ∧ t.ppu.cycle = 9)) = true := by decide
theorem test_AM3_lda : after (code [0xB5#8, 0xFF#8]
    { State.reset with x := 0x02#8, wram := [(0x001, 0x77#8), (0x101, 0x88#8)] })
    (fun t => decide (t.a = 0x77#8 ∧ t.ppu.cycle = 12)) = true := by decide
theorem test_AM4_ldx : after (code [0xB6#8, 0x80#8] { State.reset with y := 0x90#8, wram := [(0x010, 0x66#8)] })
    (fun t => decide (t.x = 0x66#8 ∧ t.ppu.cycle = 12)) = true := by decide
theorem test_AM5_lda : after (code [0xAD#8, 0x34#8, 0x02#8] { State.reset with wram := [(0x234, 0x5A#8)] })
    (fun t => decide (t.a = 0x5A#8 ∧ t.ppu.cycle = 12)) = true := by decide
theorem test_AM6_lda : after (code [0xBD#8, 0xFF#8, 0xFF#8]
    { State.reset with x := 0x02#8, wram := [(0x001, 0x3C#8)] })
    (fun t => decide (t.a = 0x3C#8 ∧ t.ppu.cycle = 12)) = true := by decide
theorem test_AM7_lda : after (code [0xB9#8, 0xF0#8, 0x02#8]
    { State.reset with y := 0x20#8, wram := [(0x310, 0x7E#8)] })
    (fun t => decide (t.a = 0x7E#8 ∧ t.ppu.cycle = 12)) = true := by decide
theorem test_AM8_lda : after (code [0xA1#8, 0xF0#8]
    { State.reset with x := 0x0F#8, wram := [(0x000, 0x02#8), (0x0FF, 0x34#8), (0x100, 0x07#8), (0x234, 0xC3#8)] })
    (fun t => decide (t.a = 0xC3#8 ∧ t.p.pack = 0xA4#8 ∧ t.ppu.cycle = 18)) = true := by decide
theorem test_AM9_lda : after (code [0xA1#8, 0x20#8]
    { State.reset with x := 0xF0#8, wram := [(0x011, 0x03#8), (0x300, 0x44#8)] })
    (fun t => decide (t.a = 0x44#8 ∧ t.ppu.cycle = 18)) = true := by decide
theorem test_AM10_lda : after (code [0xB1#8, 0xFF#8]
    { State.reset with y := 0x01#8, wram := [(0x000, 0x02#8), (0x0FF, 0xFF#8), (0x100, 0x07#8), (0x300, 0x6D#8)] })
    (fun t => decide (t.a = 0x6D#8 ∧ t.ppu.cycle = 15)) = true := by decide
theorem test_AM11_lda : after (code [0xB1#8, 0x40#8]
    { State.reset with y := 0xFF#8, wram := [(0x040, 0x80#8), (0x041, 0x05#8), (0x67F, 0x21#8)] })
    (fun t => decide (t.a = 0x21#8 ∧ t.ppu.cycle = 15)) = true := by decide
theorem test_AM12_jmp : after (code [0x6C#8, 0xFF#8, 0x02#8]
    { State.reset with wram := [(0x200, 0x12#8), (0x2FF, 0x34#8), (0x300, 0x56#8)] })
    (fun t => decide (t.p.pack = 0x24#8 ∧ t.pc = 0x1234#16 ∧ t.ppu.cycle = 15)) = true := by decide
theorem test_AM13_jmp : after (code [0x6C#8, 0x10#8, 0x02#8]
    { State.reset with wram := [(0x210, 0x78#8), (0x211, 0x56#8)] })
    (fun t => decide (t.p.pack = 0x24#8 ∧ t.pc = 0x5678#16 ∧ t.ppu.cycle = 15)) = true := by decide
theorem test_AM14_bne : after (code [0xD0#8, 0x80#8] State.reset)
    (fun t => decide (t.p.pack = 0x24#8 ∧ t.pc = 0xBF82#16 ∧ t.ppu.cycle = 9)) = true := by decide
theorem test_AM15_asl : after (code [0x0A#8] { State.reset with a := 0x40#8 })
    (fun t => decide (t.a = 0x80#8 ∧ t.p.pack = 0xA4#8 ∧ t.ppu.cycle = 6)) = true := by decide

/-! Load, store, transfer (section 3). -/

theorem test_LS1_ldx : after (code [0xA2#8, 0x7F#8] State.reset)
    (fun t => decide (t.x = 0x7F#8 ∧ t.ppu.cycle = 6)) = true := by decide
theorem test_LS2_ldy : after (code [0xA0#8, 0xFF#8] State.reset)
    (fun t => decide (t.y = 0xFF#8 ∧ t.p.pack = 0xA4#8 ∧ t.ppu.cycle = 6)) = true := by decide
theorem test_LS3_lda : after (code [0xA9#8, 0x00#8] { State.reset with a := 0x55#8 })
    (fun t => decide (t.a = 0x00#8 ∧ t.p.pack = 0x26#8 ∧ t.ppu.cycle = 6)) = true := by decide
theorem test_LS4_sta : after (code [0x8D#8, 0x00#8, 0x02#8] { State.reset with a := 0x42#8 })
    (fun t => decide (t.p.pack = 0x24#8 ∧ peek 0x0200#16 t = some 0x42#8 ∧ t.ppu.cycle = 12)) = true := by decide
theorem test_LS5_stx : after (code [0x96#8, 0xFF#8] { State.reset with x := 0x10#8, y := 0x01#8 })
    (fun t => decide (t.p.pack = 0x24#8 ∧ peek 0x0000#16 t = some 0x10#8 ∧ peek 0x0100#16 t = some 0x00#8 ∧
      t.ppu.cycle = 12)) = true := by decide
theorem test_LS6_sty : after (code [0x84#8, 0x10#8] { State.reset with y := 0x07#8 })
    (fun t => decide (t.p.pack = 0x24#8 ∧ peek 0x0010#16 t = some 0x07#8 ∧ t.ppu.cycle = 9)) = true := by decide
theorem test_LS9_tax : after (code [0xAA#8] { State.reset with a := 0x00#8, x := 0x33#8 })
    (fun t => decide (t.x = 0x00#8 ∧ t.p.pack = 0x26#8 ∧ t.ppu.cycle = 6)) = true := by decide
theorem test_LS10_txa : after (code [0x8A#8] { State.reset with x := 0x80#8 })
    (fun t => decide (t.a = 0x80#8 ∧ t.p.pack = 0xA4#8 ∧ t.ppu.cycle = 6)) = true := by decide
theorem test_LS11_tay : after (code [0xA8#8] { State.reset with a := 0x7F#8 })
    (fun t => decide (t.y = 0x7F#8 ∧ t.ppu.cycle = 6)) = true := by decide
theorem test_LS12_tya : after (code [0x98#8] { State.reset with y := 0xFF#8 })
    (fun t => decide (t.a = 0xFF#8 ∧ t.p.pack = 0xA4#8 ∧ t.ppu.cycle = 6)) = true := by decide
theorem test_LS13_tsx : after (code [0xBA#8] State.reset)
    (fun t => decide (t.x = 0xFD#8 ∧ t.p.pack = 0xA4#8 ∧ t.ppu.cycle = 6)) = true := by decide
theorem test_LS14_txs : after (code [0x9A#8] { State.reset with x := 0x00#8, p := flags 0xA4#8 })
    (fun t => decide (t.sp = 0x00#8 ∧ t.ppu.cycle = 6)) = true := by decide
theorem test_LS15_lda : after (code [0xAD#8, 0x02#8, 0x20#8] { State.reset with a := 0x55#8 })
    (fun t => decide (t.a = 0x00#8 ∧ t.p.pack = 0x26#8 ∧ t.ppu.cycle = 12)) = true := by decide

/-! Arithmetic and logic (section 4). -/

theorem test_AL1_adc : after (code [0x69#8, 0x00#8] { State.reset with a := 0xFF#8, p := flags 0x25#8 })
    (fun t => decide (t.a = 0x00#8 ∧ t.p.pack = 0x27#8 ∧ t.ppu.cycle = 6)) = true := by decide
theorem test_AL2_adc : after (code [0x69#8, 0x00#8] { State.reset with a := 0x7F#8, p := flags 0x25#8 })
    (fun t => decide (t.a = 0x80#8 ∧ t.p.pack = 0xE4#8 ∧ t.ppu.cycle = 6)) = true := by decide
theorem test_AL6_sbc : after (code [0xE9#8, 0xF0#8] { State.reset with a := 0x50#8, p := flags 0x25#8 })
    (fun t => decide (t.a = 0x60#8 ∧ t.p.pack = 0x24#8 ∧ t.ppu.cycle = 6)) = true := by decide
theorem test_AL7_sbc : after (code [0xE9#8, 0x00#8] { State.reset with a := 0x00#8, p := flags 0x25#8 })
    (fun t => decide (t.p.pack = 0x27#8 ∧ t.ppu.cycle = 6)) = true := by decide
theorem test_AL12_and : after (code [0x29#8, 0x0F#8] { State.reset with a := 0xF0#8 })
    (fun t => decide (t.a = 0x00#8 ∧ t.p.pack = 0x26#8 ∧ t.ppu.cycle = 6)) = true := by decide
theorem test_AL13_ora : after (code [0x09#8, 0x80#8] { State.reset with a := 0x01#8 })
    (fun t => decide (t.a = 0x81#8 ∧ t.p.pack = 0xA4#8 ∧ t.ppu.cycle = 6)) = true := by decide
theorem test_AL14_eor : after (code [0x49#8, 0xFF#8] { State.reset with a := 0xFF#8 })
    (fun t => decide (t.a = 0x00#8 ∧ t.p.pack = 0x26#8 ∧ t.ppu.cycle = 6)) = true := by decide
theorem test_AL15_bit : after (code [0x24#8, 0x10#8] { State.reset with a := 0x01#8, wram := [(0x010, 0xC0#8)] })
    (fun t => decide (t.p.pack = 0xE6#8 ∧ t.ppu.cycle = 9)) = true := by decide
theorem test_AL16_bit : after (code [0x2C#8, 0x00#8, 0x03#8]
    { State.reset with a := 0xFF#8, p := flags 0xE4#8, wram := [(0x300, 0x3F#8)] })
    (fun t => decide (t.p.pack = 0x24#8 ∧ t.ppu.cycle = 12)) = true := by decide
theorem test_AL17_cmp : after (code [0xC9#8, 0x41#8] { State.reset with a := 0x40#8 })
    (fun t => decide (t.p.pack = 0xA4#8 ∧ t.ppu.cycle = 6)) = true := by decide
theorem test_AL18_cmp : after (code [0xC9#8, 0x40#8] { State.reset with a := 0x40#8 })
    (fun t => decide (t.p.pack = 0x27#8 ∧ t.ppu.cycle = 6)) = true := by decide
theorem test_AL20_cpx : after (code [0xE0#8, 0x10#8] { State.reset with x := 0x10#8 })
    (fun t => decide (t.p.pack = 0x27#8 ∧ t.ppu.cycle = 6)) = true := by decide
theorem test_AL21_cpy : after (code [0xC0#8, 0x04#8] { State.reset with y := 0x05#8 })
    (fun t => decide (t.p.pack = 0x25#8 ∧ t.ppu.cycle = 6)) = true := by decide
theorem test_AL22_inc : after (code [0xE6#8, 0x10#8] { State.reset with wram := [(0x010, 0xFF#8)] })
    (fun t => decide (t.p.pack = 0x26#8 ∧ peek 0x0010#16 t = some 0x00#8 ∧ t.ppu.cycle = 15)) = true := by decide
theorem test_AL23_inc : after (code [0xEE#8, 0x00#8, 0x03#8] { State.reset with wram := [(0x300, 0x7F#8)] })
    (fun t => decide (t.p.pack = 0xA4#8 ∧ peek 0x0300#16 t = some 0x80#8 ∧ t.ppu.cycle = 18)) = true := by decide
theorem test_AL24_dec : after (code [0xC6#8, 0x10#8] State.reset)
    (fun t => decide (t.p.pack = 0xA4#8 ∧ peek 0x0010#16 t = some 0xFF#8 ∧ t.ppu.cycle = 15)) = true := by decide
theorem test_AL25_dec : after (code [0xDE#8, 0xFF#8, 0x02#8]
    { State.reset with x := 0x01#8, wram := [(0x300, 0x01#8)] })
    (fun t => decide (t.p.pack = 0x26#8 ∧ peek 0x0300#16 t = some 0x00#8 ∧ t.ppu.cycle = 21)) = true := by decide
theorem test_AL26_inx : after (code [0xE8#8] { State.reset with x := 0xFF#8 })
    (fun t => decide (t.x = 0x00#8 ∧ t.p.pack = 0x26#8 ∧ t.ppu.cycle = 6)) = true := by decide
theorem test_AL27_iny : after (code [0xC8#8] { State.reset with y := 0x7F#8 })
    (fun t => decide (t.y = 0x80#8 ∧ t.p.pack = 0xA4#8 ∧ t.ppu.cycle = 6)) = true := by decide
theorem test_AL28_dex : after (code [0xCA#8] { State.reset with x := 0x00#8 })
    (fun t => decide (t.x = 0xFF#8 ∧ t.p.pack = 0xA4#8 ∧ t.ppu.cycle = 6)) = true := by decide
theorem test_AL29_dey : after (code [0x88#8] { State.reset with y := 0x01#8 })
    (fun t => decide (t.y = 0x00#8 ∧ t.p.pack = 0x26#8 ∧ t.ppu.cycle = 6)) = true := by decide

/-! Shifts and rotates (section 5). -/

theorem test_SH1_asl : after (code [0x0A#8] { State.reset with a := 0x81#8 })
    (fun t => decide (t.a = 0x02#8 ∧ t.p.pack = 0x25#8 ∧ t.ppu.cycle = 6)) = true := by decide
theorem test_SH2_asl : after (code [0x0A#8] { State.reset with a := 0x80#8 })
    (fun t => decide (t.a = 0x00#8 ∧ t.p.pack = 0x27#8 ∧ t.ppu.cycle = 6)) = true := by decide
theorem test_SH4_lsr : after (code [0x4A#8] { State.reset with a := 0x03#8 })
    (fun t => decide (t.a = 0x01#8 ∧ t.p.pack = 0x25#8 ∧ t.ppu.cycle = 6)) = true := by decide
theorem test_SH5_lsr : after (code [0x4A#8] { State.reset with a := 0x01#8, p := flags 0xA5#8 })
    (fun t => decide (t.a = 0x00#8 ∧ t.p.pack = 0x27#8 ∧ t.ppu.cycle = 6)) = true := by decide
theorem test_SH7_rol : after (code [0x2A#8] { State.reset with a := 0x40#8, p := flags 0x25#8 })
    (fun t => decide (t.a = 0x81#8 ∧ t.p.pack = 0xA4#8 ∧ t.ppu.cycle = 6)) = true := by decide
theorem test_SH8_rol : after (code [0x2A#8] { State.reset with a := 0x80#8, p := flags 0x24#8 })
    (fun t => decide (t.a = 0x00#8 ∧ t.p.pack = 0x27#8 ∧ t.ppu.cycle = 6)) = true := by decide
theorem test_SH10_ror : after (code [0x66#8, 0x10#8]
    { State.reset with p := flags 0x25#8, wram := [(0x010, 0x02#8)] })
    (fun t => decide (t.p.pack = 0xA4#8 ∧ peek 0x0010#16 t = some 0x81#8 ∧ t.ppu.cycle = 15)) = true := by decide
theorem test_SH11_ror : after (code [0x6A#8] { State.reset with a := 0x01#8, p := flags 0x24#8 })
    (fun t => decide (t.a = 0x00#8 ∧ t.p.pack = 0x27#8 ∧ t.ppu.cycle = 6)) = true := by decide

/-! Flags, stack, no operation (section 6). -/

theorem test_FS1_clc : after (code [0x18#8] { State.reset with p := flags 0x25#8 })
    (fun t => decide (t.p.pack = 0x24#8 ∧ t.ppu.cycle = 6)) = true := by decide
theorem test_FS2_sec : after (code [0x38#8] State.reset)
    (fun t => decide (t.p.pack = 0x25#8 ∧ t.ppu.cycle = 6)) = true := by decide
theorem test_FS3_cli : after (code [0x58#8] State.reset)
    (fun t => decide (t.p.pack = 0x20#8 ∧ t.ppu.cycle = 6)) = true := by decide
theorem test_FS4_sei : after (code [0x78#8] { State.reset with p := flags 0x20#8 })
    (fun t => decide (t.p.pack = 0x24#8 ∧ t.ppu.cycle = 6)) = true := by decide
theorem test_FS5_clv : after (code [0xB8#8] { State.reset with p := flags 0x64#8 })
    (fun t => decide (t.p.pack = 0x24#8 ∧ t.ppu.cycle = 6)) = true := by decide
theorem test_FS6_cld : after (code [0xD8#8] { State.reset with p := flags 0x2C#8 })
    (fun t => decide (t.p.pack = 0x24#8 ∧ t.ppu.cycle = 6)) = true := by decide
theorem test_FS7_sed : after (code [0xF8#8] State.reset)
    (fun t => decide (t.p.pack = 0x2C#8 ∧ t.ppu.cycle = 6)) = true := by decide
theorem test_FS8_pha : after (code [0x48#8] { State.reset with a := 0x42#8 })
    (fun t => decide (t.sp = 0xFC#8 ∧ peek 0x01FD#16 t = some 0x42#8 ∧ t.ppu.cycle = 9)) = true := by decide
theorem test_FS9_pha : after (code [0x48#8] { State.reset with a := 0x42#8, sp := 0x00#8 })
    (fun t => decide (t.sp = 0xFF#8 ∧ peek 0x0100#16 t = some 0x42#8 ∧ t.ppu.cycle = 9)) = true := by decide
theorem test_FS10_pla : after (code [0x68#8] { State.reset with sp := 0xFC#8, a := 0x11#8 })
    (fun t => decide (t.a = 0x00#8 ∧ t.sp = 0xFD#8 ∧ t.p.pack = 0x26#8 ∧ t.ppu.cycle = 12)) = true := by decide
theorem test_FS11_pla : after (code [0x68#8] { State.reset with sp := 0xFF#8, wram := [(0x100, 0x80#8)] })
    (fun t => decide (t.a = 0x80#8 ∧ t.sp = 0x00#8 ∧ t.p.pack = 0xA4#8 ∧ t.ppu.cycle = 12)) = true := by decide
theorem test_FS12_php : after (code [0x08#8] State.reset)
    (fun t => decide (t.sp = 0xFC#8 ∧ peek 0x01FD#16 t = some 0x34#8 ∧ t.ppu.cycle = 9)) = true := by decide
theorem test_FS13_php : after (code [0x08#8] { State.reset with p := flags 0xEF#8 })
    (fun t => decide (t.sp = 0xFC#8 ∧ peek 0x01FD#16 t = some 0xFF#8 ∧ t.ppu.cycle = 9)) = true := by decide
theorem test_FS14_plp : after (code [0x28#8] { State.reset with sp := 0xFC#8, wram := [(0x1FD, 0xFF#8)] })
    (fun t => decide (t.sp = 0xFD#8 ∧ t.p.pack = 0xFF#8 ∧ t.ppu.cycle = 12)) = true := by decide
theorem test_FS15_plp : after (code [0x28#8]
    { State.reset with sp := 0xFC#8, wram := [(0x1FD, 0xFF#8)], cfg := { Config.default with pullB := .keep } })
    (fun t => decide (t.sp = 0xFD#8 ∧ t.p.pack = 0xEF#8 ∧ t.ppu.cycle = 12)) = true := by decide
theorem test_FS17_nop : after (code [0xEA#8] State.reset)
    (fun t => decide (t.p.pack = 0x24#8 ∧ t.ppu.cycle = 6)) = true := by decide

/-! Control transfer (section 7). -/

theorem test_CT1_bpl : after (code [0x10#8, 0x05#8] State.reset)
    (fun t => decide (t.p.pack = 0x24#8 ∧ t.pc = 0xC007#16 ∧ t.ppu.cycle = 9)) = true := by decide
theorem test_CT2_bmi : after (code [0x30#8, 0x05#8] State.reset)
    (fun t => decide (t.p.pack = 0x24#8 ∧ t.ppu.cycle = 6)) = true := by decide
theorem test_CT3_bvc : after (code [0x50#8, 0xFE#8] { State.reset with pc := 0xC010#16 })
    (fun t => decide (t.p.pack = 0x24#8 ∧ t.pc = 0xC010#16 ∧ t.ppu.cycle = 9)) = true := by decide
theorem test_CT4_bvs : after (code [0x70#8, 0x7F#8] { State.reset with p := flags 0x64#8 })
    (fun t => decide (t.p.pack = 0x64#8 ∧ t.pc = 0xC081#16 ∧ t.ppu.cycle = 9)) = true := by decide
theorem test_CT5_bcc : after (code [0x90#8, 0x10#8] { State.reset with p := flags 0x25#8 })
    (fun t => decide (t.p.pack = 0x25#8 ∧ t.ppu.cycle = 6)) = true := by decide
theorem test_CT6_bcs : after (code [0xB0#8, 0x80#8] { State.reset with p := flags 0x25#8 })
    (fun t => decide (t.p.pack = 0x25#8 ∧ t.pc = 0xBF82#16 ∧ t.ppu.cycle = 9)) = true := by decide
theorem test_CT7_bne : after (code [0xD0#8, 0xFB#8] { State.reset with pc := 0xC005#16 })
    (fun t => decide (t.p.pack = 0x24#8 ∧ t.pc = 0xC002#16 ∧ t.ppu.cycle = 9)) = true := by decide
theorem test_CT8_beq : after (code [0xF0#8, 0x02#8] { State.reset with pc := 0xFFFE#16, p := flags 0x26#8 })
    (fun t => decide (t.p.pack = 0x26#8 ∧ t.pc = 0x0002#16 ∧ t.ppu.cycle = 9)) = true := by decide
theorem test_CT9_beq : after (code [0xF0#8, 0x00#8] { State.reset with p := flags 0x26#8 })
    (fun t => decide (t.p.pack = 0x26#8 ∧ t.ppu.cycle = 9)) = true := by decide
theorem test_CT10_jmp : after (code [0x4C#8, 0xF5#8, 0xC5#8] State.reset)
    (fun t => decide (t.p.pack = 0x24#8 ∧ t.pc = 0xC5F5#16 ∧ t.ppu.cycle = 9)) = true := by decide
theorem test_CT11_jsr : after (code [0x20#8, 0x34#8, 0x12#8] State.reset)
    (fun t => decide (t.sp = 0xFB#8 ∧ t.pc = 0x1234#16 ∧ peek 0x01FD#16 t = some 0xC0#8 ∧
      peek 0x01FC#16 t = some 0x02#8 ∧ t.ppu.cycle = 18)) = true := by decide
theorem test_CT12_jsr : after (code [0x20#8, 0x00#8, 0x90#8] { State.reset with sp := 0x00#8 })
    (fun t => decide (t.sp = 0xFE#8 ∧ t.pc = 0x9000#16 ∧ peek 0x0100#16 t = some 0xC0#8 ∧
      peek 0x01FF#16 t = some 0x02#8 ∧ t.ppu.cycle = 18)) = true := by decide
theorem test_CT13_rts : after (code [0x60#8]
    { State.reset with sp := 0xFB#8, wram := [(0x1FC, 0x02#8), (0x1FD, 0xC0#8)] })
    (fun t => decide (t.sp = 0xFD#8 ∧ t.pc = 0xC003#16 ∧ t.ppu.cycle = 18)) = true := by decide
theorem test_CT14_rts : after (code [0x60#8]
    { State.reset with sp := 0xFB#8, wram := [(0x1FC, 0xFF#8), (0x1FD, 0xFF#8)] })
    (fun t => decide (t.sp = 0xFD#8 ∧ t.pc = 0x0000#16 ∧ t.ppu.cycle = 18)) = true := by decide
theorem test_CT15_rti : after (code [0x40#8]
    { State.reset with sp := 0xFA#8, wram := [(0x1FB, 0xC3#8), (0x1FD, 0xC8#8)] })
    (fun t => decide (t.sp = 0xFD#8 ∧ t.p.pack = 0xE3#8 ∧ t.pc = 0xC800#16 ∧ t.ppu.cycle = 18)) = true := by decide
theorem test_CT16_rti : after (code [0x40#8]
    { State.reset with sp := 0xFA#8, wram := [(0x1FB, 0x10#8), (0x1FC, 0x34#8), (0x1FD, 0x12#8)] })
    (fun t => decide (t.sp = 0xFD#8 ∧ t.p.pack = 0x30#8 ∧ t.pc = 0x1234#16 ∧ t.ppu.cycle = 18)) = true := by decide
theorem test_CT17_hlt : after (code [0x00#8] { State.reset with pc := 0xC123#16 })
    (fun t => decide (t.p.pack = 0x24#8 ∧ t.run = .halted ∧ t.ppu.cycle = 0)) = true := by decide

/-! Undocumented instructions (section 8). -/

theorem test_UD1_lax : after (code [0xA7#8, 0x10#8] { State.reset with wram := [(0x010, 0x80#8)] })
    (fun t => decide (t.a = 0x80#8 ∧ t.x = 0x80#8 ∧ t.p.pack = 0xA4#8 ∧ t.ppu.cycle = 9)) = true := by decide
theorem test_UD3_aax : after (code [0x87#8, 0x10#8] { State.reset with a := 0xF0#8, x := 0x3C#8 })
    (fun t => decide (t.p.pack = 0x24#8 ∧ peek 0x0010#16 t = some 0x30#8 ∧ t.ppu.cycle = 9)) = true := by decide
theorem test_UD5_slo : after (code [0x07#8, 0x10#8] { State.reset with a := 0x01#8, wram := [(0x010, 0x81#8)] })
    (fun t => decide (t.a = 0x03#8 ∧ t.p.pack = 0x25#8 ∧ peek 0x0010#16 t = some 0x02#8 ∧
      t.ppu.cycle = 15)) = true := by decide
theorem test_UD6_rla : after (code [0x27#8, 0x10#8]
    { State.reset with a := 0xFF#8, p := flags 0x25#8, wram := [(0x010, 0x40#8)] })
    (fun t => decide (t.a = 0x81#8 ∧ t.p.pack = 0xA4#8 ∧ peek 0x0010#16 t = some 0x81#8 ∧
      t.ppu.cycle = 15)) = true := by decide
theorem test_UD7_sre : after (code [0x47#8, 0x10#8] { State.reset with a := 0x01#8, wram := [(0x010, 0x03#8)] })
    (fun t => decide (t.a = 0x00#8 ∧ t.p.pack = 0x27#8 ∧ peek 0x0010#16 t = some 0x01#8 ∧
      t.ppu.cycle = 15)) = true := by decide
theorem test_UD8_rra : after (code [0x67#8, 0x10#8] { State.reset with a := 0x10#8, wram := [(0x010, 0x03#8)] })
    (fun t => decide (t.a = 0x12#8 ∧ peek 0x0010#16 t = some 0x01#8 ∧ t.ppu.cycle = 15)) = true := by decide
theorem test_UD9_rra : after (code [0x67#8, 0x10#8] { State.reset with a := 0x7F#8, p := flags 0x25#8 })
    (fun t => decide (t.a = 0xFF#8 ∧ t.p.pack = 0xA4#8 ∧ peek 0x0010#16 t = some 0x80#8 ∧
      t.ppu.cycle = 15)) = true := by decide
theorem test_UD10_dcp : after (code [0xC7#8, 0x10#8] { State.reset with a := 0x40#8, wram := [(0x010, 0x41#8)] })
    (fun t => decide (t.p.pack = 0x27#8 ∧ peek 0x0010#16 t = some 0x40#8 ∧ t.ppu.cycle = 15)) = true := by decide
theorem test_UD11_dcp : after (code [0xC7#8, 0x10#8] { State.reset with a := 0x00#8 })
    (fun t => decide (t.p.pack = 0x24#8 ∧ peek 0x0010#16 t = some 0xFF#8 ∧ t.ppu.cycle = 15)) = true := by decide
theorem test_UD12_isc : after (code [0xE7#8, 0x10#8]
    { State.reset with a := 0x10#8, p := flags 0x25#8, wram := [(0x010, 0x0F#8)] })
    (fun t => decide (t.a = 0x00#8 ∧ t.p.pack = 0x27#8 ∧ peek 0x0010#16 t = some 0x10#8 ∧
      t.ppu.cycle = 15)) = true := by decide
theorem test_UD13_isc : after (code [0xE7#8, 0x10#8]
    { State.reset with a := 0x00#8, p := flags 0x25#8, wram := [(0x010, 0xFF#8)] })
    (fun t => decide (t.p.pack = 0x27#8 ∧ peek 0x0010#16 t = some 0x00#8 ∧ t.ppu.cycle = 15)) = true := by decide
theorem test_UD14_skb : after (code [0x04#8, 0xA9#8] State.reset)
    (fun t => decide (t.p.pack = 0x24#8 ∧ t.ppu.cycle = 9)) = true := by decide
theorem test_UD16_skw : after (code [0x0C#8, 0x06#8, 0x20#8] State.reset)
    (fun t => decide (t.p.pack = 0x24#8 ∧ t.ppu.cycle = 12)) = true := by decide

/-! Faults and halting (section 9). -/

theorem test_FT1 : faults (code [0x02#8] State.reset) (.unknownOpcode 0x02#8 0xC000#16) = true := by decide
theorem test_FT2 : faults (code [0x89#8, 0x00#8] { State.reset with pc := 0xC100#16 })
    (.unknownOpcode 0x89#8 0xC100#16) = true := by decide
theorem test_FT3 : faults (code [0x8D#8, 0x02#8, 0x20#8] State.reset)
    (.readOnlyRegisterWrite 0x2002#16) = true := by decide
theorem test_FT4 : faults (code [0x8D#8, 0xFA#8, 0x3F#8] State.reset)
    (.readOnlyRegisterWrite 0x2002#16) = true := by decide
theorem test_FT5 : faults (code [0xAD#8, 0x05#8, 0x20#8] State.reset)
    (.writeOnlyRegisterRead 0x2005#16) = true := by decide
theorem test_FT6 : faults (code [0xEE#8, 0x06#8, 0x20#8] State.reset)
    (.writeOnlyRegisterRead 0x2006#16) = true := by decide
theorem test_FT7 : faults (code [0xAD#8, 0x07#8, 0x20#8] State.reset) (.ppuBusUnmapped 0x0000#14) = true := by decide
theorem test_FT8 : faults (code [0x8D#8, 0x07#8, 0x20#8] { State.reset with a := 0x01#8 })
    (.ppuBusUnmapped 0x0000#14) = true := by decide
theorem test_FT9 : faults (code [0x8D#8, 0x00#8, 0x80#8]
    { State.reset with a := 0x01#8, cfg := { Config.default with prgWrite := .fault } })
    (.romWrite 0x8000#16) = true := by decide
theorem test_FT10 : after (code [0x00#8] State.reset)
    (fun t => decide (t.p.pack = 0x24#8 ∧ t.run = .halted ∧ t.ppu.cycle = 0)) = true := by decide

/-! The buses and the Ppu (95_test_vectors.md sections 10 to 13), as sequences of CpuBus accesses. -/

/-- An access: a write, or a read that must give the byte. -/
inductive BusAccess where
  | write (addr : Word) (v : Byte)
  | read (addr : Word) (v : Byte)

/-- The accesses all complete, the reads give their bytes, and the last state passes the check. -/
def accesses : List BusAccess → State → (State → Bool) → Bool
  | [], s, check => check s
  | .write a v :: rest, s, check =>
    match busWrite a v s with
    | .ok _ t => accesses rest t check
    | .fault _ => false
  | .read a v :: rest, s, check =>
    match busRead a s with
    | .ok b t => decide (b = v) && accesses rest t check
    | .fault _ => false

/-- A 16 KB image with byte 9A at 0x8123 and 0xC123. -/
def bank16 : State := { State.reset with prg := .shared [(0x123, 0x9A#8)] }

/-- A 32 KB image with byte 9A at 0x8123 and 5B at 0xC123. -/
def bank32 : State := { State.reset with prg := .split [(0x123, 0x9A#8)] [(0x123, 0x5B#8)] }

theorem test_bus_wram : accesses [.write 0x0000#16 0x11#8, .read 0x0800#16 0x11#8, .read 0x1800#16 0x11#8,
    .write 0x1FFF#16 0x22#8, .read 0x07FF#16 0x22#8] State.reset (fun _ => true) = true := by decide
theorem test_bus_registers : accesses [.write 0x2000#16 0x84#8, .read 0x2000#16 0x84#8, .write 0x3FF8#16 0x04#8,
    .read 0x2000#16 0x04#8, .write 0x2009#16 0x1E#8, .read 0x3001#16 0x1E#8] State.reset
    (fun _ => true) = true := by decide
theorem test_bus_io : accesses [.write 0x4000#16 0x33#8, .write 0x401F#16 0x44#8, .read 0x4000#16 0x33#8,
    .read 0x401F#16 0x44#8, .write 0x4014#16 0x02#8, .read 0x4014#16 0x02#8] State.reset
    (fun t => decide (t.ppu.oamDma = 0x02#8 ∧ t.ioreg.read 0x14 = 0x00#8)) = true := by decide
theorem test_bus_sram : accesses [.write 0x4020#16 0x55#8, .write 0x7FFF#16 0x66#8, .read 0x4020#16 0x55#8,
    .read 0x7FFF#16 0x66#8] State.reset (fun _ => true) = true := by decide
theorem test_bus_bank16 : accesses [.read 0x8123#16 0x9A#8, .read 0xC123#16 0x9A#8, .write 0x8000#16 0xAB#8,
    .read 0xC000#16 0xAB#8] bank16 (fun _ => true) = true := by decide
theorem test_bus_bank32 : accesses [.read 0x8123#16 0x9A#8, .read 0xC123#16 0x5B#8, .write 0x8000#16 0xAB#8,
    .read 0x8000#16 0xAB#8, .read 0xC000#16 0x00#8] bank32 (fun _ => true) = true := by decide
theorem test_ppu_oam : accesses [.write 0x2003#16 0x10#8, .write 0x2004#16 0xAA#8, .write 0x2004#16 0xBB#8,
    .read 0x2004#16 0xBB#8, .read 0x2003#16 0x10#8] State.reset
    (fun t => decide (t.ppu.oam = [(0x10, 0xBB#8)])) = true := by decide
theorem test_ppu_scroll : accesses [.write 0x2005#16 0x12#8, .write 0x2005#16 0x34#8, .write 0x2005#16 0x56#8]
    State.reset (fun t => decide (t.ppu.scroll = ⟨0x5634#16, .second⟩)) = true := by decide
theorem test_ppu_status : accesses [.read 0x2002#16 0xC0#8, .read 0x2002#16 0xC0#8]
    { State.reset with ppu := { Ppu.reset with status := ⟨true, true, false⟩ } } (fun _ => true) = true := by decide
theorem test_ppu_step32 : accesses [.write 0x2000#16 0x04#8, .write 0x2006#16 0x20#8, .write 0x2006#16 0x00#8,
    .write 0x2007#16 0x01#8, .write 0x2007#16 0x02#8] State.reset
    (fun t => decide (t.ppu.nt = [(0, 0x01#8), (0x20, 0x02#8)] ∧ t.ppu.vaddr.value = 0x2040#16)) = true := by decide
theorem test_ppu_palette : accesses [.write 0x2006#16 0xFF#8, .write 0x2006#16 0xFF#8, .write 0x2007#16 0x09#8]
    State.reset (fun t => decide (t.ppu.pal = [(0x1F, 0x09#8)] ∧ t.ppu.vaddr.value = 0x0000#16)) = true := by decide
theorem test_ppu_buffer : accesses [.write 0x2006#16 0x3E#8, .write 0x2006#16 0xFF#8, .read 0x2007#16 0x00#8,
    .read 0x2007#16 0x21#8]
    { State.reset with ppu := { Ppu.reset with nt := [(0xEFF, 0x42#8)], pal := [(0, 0x21#8)] } }
    (fun t => decide (t.ppu.readBuf = 0x42#8)) = true := by decide
theorem test_ppu_line_end :
    (ppuStep { State.reset with ppu := { Ppu.reset with cycle := 340 } }).ppu.scanline = 1 := by decide
theorem test_ppu_pixel : (ppuStep State.reset).fb.map (fun cell => cell.1) = [0] := by decide
theorem test_ppu_last_position :
    (ppuStep { State.reset with ppu := { Ppu.reset with scanline := 261, cycle := 340 } }).ppu.scanline = 0 := by decide

/-- The alternatives of the launch parameters (10_state.md section 5). -/
theorem test_write_increment : accesses [.write 0x2003#16 0xFF#8, .write 0x2004#16 0xAA#8, .read 0x2003#16 0x00#8]
    { State.reset with cfg := { Config.default with oamDataIncrement := true } } (fun _ => true) = true := by decide
theorem test_increment_off : accesses [.write 0x2006#16 0x20#8, .write 0x2006#16 0x00#8, .write 0x2007#16 0x01#8]
    { State.reset with cfg := { Config.default with vramIncrement := .off } }
    (fun t => decide (t.ppu.vaddr.value = 0x2000#16)) = true := by decide
theorem test_prg_ignore : accesses [.write 0x8123#16 0x00#8, .read 0x8123#16 0x9A#8]
    { bank16 with cfg := { Config.default with prgWrite := .ignore } } (fun _ => true) = true := by decide
theorem test_vblank_standard :
    (ppuStep { State.reset with
      cfg := { Config.default with vblank := .standard }
      ppu := { Ppu.reset with scanline := 241 } }).ppu.status = ⟨true, false, false⟩ := by decide
theorem test_run_ended : faults { State.reset with run := .halted } .runEnded = true := by decide
theorem test_no_program : faults State.reset (.noProgramLoaded .prg2 0) = true := by decide
theorem test_withFetchWord : after (State.reset.withFetchWord 16 0x42A9) (fun t => decide (t.a = 0x42#8)) = true := by
  decide
theorem test_decodeTableWord : decodeTableWord 24 0xC5F54C = some (.jmpAbs 0xC5F5#16) ∧
    decodeTableWord 8 0x20 = some (.jsr 0x0000#16) ∧ decodeTableWord 8 0x02 = none := by decide
theorem test_FT1_left : (leftByFault (code [0x02#8] State.reset)).pc = 0xC001#16 := by decide
theorem test_FT3_left : (leftByFault (code [0x8D#8, 0x02#8, 0x20#8] State.reset)).pc = 0xC003#16 := by decide
theorem test_FT6_left : (leftByFault (code [0xEE#8, 0x06#8, 0x20#8] State.reset)).pc = 0xC003#16 := by decide
/-- `INC $2002`: the read half has put the toggle back when the write faults (60_exceptions.md R382). -/
theorem test_inc_2002_left : (leftByFault (code [0xEE#8, 0x02#8, 0x20#8]
    { State.reset with ppu := { Ppu.reset with scroll := ⟨0x1200#16, .second⟩ } })).ppu.scroll.toggle = .first := by
  decide

/-! Witnesses: for each statement with hypotheses, states and operands that meet them, each clause at the ends of its
range. An access or an instruction "completes" in a state that evaluation finds. -/

/-- The bus read completes. -/
def reads (addr : Word) (s : State) : Prop := ∃ v t, busRead addr s = .ok v t

/-- The bus write completes. -/
def writes (addr : Word) (v : Byte) (s : State) : Prop := ∃ t, busWrite addr v s = .ok () t

/-- The instruction completes. -/
def completes (i : Instr) (s : State) : Prop := ∃ t, exec i s = .next t

theorem exists_ok {α : Type} {r : Access α} {check : α → State → Bool}
    (h : (match r with | .ok v t => check v t | .fault _ => false) = true) :
    ∃ v t, r = .ok v t ∧ check v t = true := by
  cases r with
  | ok v t => exact ⟨v, t, rfl, h⟩
  | fault f => cases h

theorem exists_fault {α : Type} {r : Access α} (h : (match r with | .ok _ _ => false | .fault _ => true) = true) :
    ∃ f, r = .fault f := by
  cases r with
  | ok v t => cases h
  | fault f => exact ⟨f, rfl⟩

theorem reads_of {addr : Word} {s : State}
    (h : (match busRead addr s with | .ok _ _ => true | .fault _ => false) = true) : reads addr s := by
  unfold reads
  cases hr : busRead addr s with
  | ok v t => exact ⟨v, t, rfl⟩
  | fault f => rw [hr] at h; cases h

/-- `State.reset` under other launch parameters. -/
def under (cfg : Config) : State := { State.reset with cfg := cfg }

theorem witness_CpuResetSetsRegisters :
    State.reset.cfg.resetPc = .fixed 0xC000#16 ∧
    ∃ s : State, s.cfg.resetPc = .vector 0xFFFC#16 ∧ peek 0xFFFC#16 s = some 0x00#8 ∧
      peek (0xFFFC#16 + 1) s = some 0x80#8 :=
  ⟨rfl, { under { Config.default with resetPc := .vector 0xFFFC#16 } with prg := .shared [(0x3FFD, 0x80#8)] },
    rfl, by decide, by decide⟩

/-- A 16 KB image with its own first address, 0x8000, in the bytes 3FFC and 3FFD. -/
def vectorImage : List Byte := List.replicate 0x3FFC 0xEA#8 ++ [0x00#8, 0x80#8, 0xEA#8, 0xEA#8]

theorem vectorImage_at (k : Nat) (hk : 0x3FFC ≤ k) :
    vectorImage[k]? = [0x00#8, 0x80#8, 0xEA#8, 0xEA#8][k - 0x3FFC]? := by
  rw [vectorImage, List.getElem?_append_right (by rw [List.length_replicate]; exact hk), List.length_replicate]

theorem vectorImage_length : vectorImage.length = 0x4000 := by
  rw [vectorImage, List.length_append, List.length_replicate]; rfl

theorem witness_ProgramLoadInstallsTheImage :
    State.reset.cfg.resetPc = .fixed 0xC000#16 ∧
    (∃ image : List Byte, image.length = 0x8000) ∧ (∃ image : List Byte, image.length = 0x4000) ∧
    ∃ image : List Byte, image.length ≠ 0x8000 ∧ image.length ≠ 0x4000 :=
  ⟨rfl, ⟨List.replicate 0x8000 0xEA#8, List.length_replicate⟩,
    ⟨List.replicate 0x4000 0xEA#8, List.length_replicate⟩, [], by decide, by decide⟩

/-- The vector at 0xFFFC with the image's bytes there (vector BD15), and the ends of the banks' range. -/
theorem witness_LoadsAndResets :
    (under { Config.default with resetPc := .vector 0xFFFC#16 }).cfg.resetPc = .vector 0xFFFC#16 ∧
    vectorImage.length = 0x4000 ∧
    vectorImage[((0xFFFC#16 : Word).toNat - 0x8000) % vectorImage.length]? = some 0x00#8 ∧
    vectorImage[((0xFFFC#16 : Word).toNat + 1 - 0x8000) % vectorImage.length]? = some 0x80#8 ∧
    0x8000 ≤ (0x8000#16 : Word).toNat ∧ (0xFFFE#16 : Word).toNat < 0xFFFF := by
  refine ⟨rfl, vectorImage_length, ?_, ?_, by decide, by decide⟩
  · rw [vectorImage_length]; exact vectorImage_at 0x3FFC (by decide)
  · rw [vectorImage_length]; exact vectorImage_at 0x3FFD (by decide)

/-- A vector outside the banks: both reads complete, the first faults, the second faults. -/
theorem witness_LoadsAndResets_bus : (∃ lo u, busRead 0x0000#16 bank16 = .ok lo u ∧ reads 0x0001#16 u) ∧
    (∃ e, busRead 0x2005#16 bank16 = .fault e) ∧
    ∃ lo u e, busRead 0x2004#16 bank16 = .ok lo u ∧ busRead 0x2005#16 u = .fault e :=
  ⟨⟨_, _, rfl, _, _, rfl⟩, ⟨_, rfl⟩, _, _, _, rfl, rfl⟩

theorem witness_LaunchIsWellFormed : Memory.wf 0x800 [(0x7FF, 0x01#8)] = true ∧ Memory.wf 0x20 [] = true ∧
    Memory.wf 0x3FE0 [] = true ∧ Memory.wf 0x100 [] = true ∧ Memory.wf 0x1000 [] = true ∧
    ∃ image t, launch Config.default [(0x7FF, 0x01#8)] [] [] [] [] [] image = .ok () t := by
  obtain ⟨image, h⟩ : ∃ image : List Byte, image.length = 0x4000 := ⟨_, List.length_replicate (a := 0xEA#8)⟩
  refine ⟨by decide, by decide, by decide, by decide, by decide, image, ?_⟩
  simp only [launch, loadProgram, installImage, bulkWrite, h]
  exact ⟨_, rfl⟩

theorem witness_StepRunsTheDecodedInstruction : ∃ s : State,
    s.run = .running ∧ reads s.pc s ∧ (∃ i s1, fetchInstr s = .ok i s1) ∧
    decode [0xA9#8, 0x42#8] = .ok (.ldaImm 0x42#8, []) ∧
    ∀ k, k < [0xA9#8, 0x42#8].length - 0 → peek (s.pc + BitVec.ofNat 16 k) s = [0xA9#8, 0x42#8][k]? :=
  ⟨code [0xA9#8, 0x42#8] State.reset, rfl, reads_of (by decide),
    (exists_ok (check := fun _ _ => true) (by decide)).elim fun i h => ⟨i, h.elim fun t h => ⟨t, h.1⟩⟩, by decide,
    by decide⟩

theorem witness_StepRunsTheDecodedInstruction_fault : State.reset.run = .running ∧
    (∃ f, busRead State.reset.pc State.reset = .fault f) ∧ ∃ f, fetchInstr State.reset = .fault f :=
  ⟨rfl, exists_fault (by decide), exists_fault (by decide)⟩

theorem witness_UnmappedBytesFault : (code [0xF2#8] State.reset).run = .running ∧
    (∃ b u, busRead 0xC000#16 (code [0xF2#8] State.reset) = .ok b u ∧ decide (b ∈ unmappedBytes) = true) ∧
    ∃ b u, busRead 0xC000#16 (code [0xEA#8] State.reset) = .ok b u ∧ decide (b ∉ unmappedBytes) = true :=
  ⟨rfl, exists_ok (check := fun b _ => decide (b ∈ unmappedBytes)) (by decide),
    exists_ok (check := fun b _ => decide (b ∉ unmappedBytes)) (by decide)⟩

theorem witness_HaltEndsTheRun : (code [0x00#8] State.reset).run = .running ∧
    (∃ b u, busRead 0xC000#16 (code [0x00#8] State.reset) = .ok b u ∧ decide (b = 0x00#8) = true) ∧
    ∃ s : State, s.run = .halted :=
  ⟨rfl, exists_ok (check := fun b _ => decide (b = 0x00#8)) (by decide), { State.reset with run := .halted }, rfl⟩

theorem witness_DecodeAfterEncode : (Instr.bne (-128)).wf = true ∧ (Instr.bne 127).wf = true ∧
    (Instr.jmpAbs 0xFFFF#16).wf = true := by decide

theorem witness_EncodeAfterDecode : decode [0xD0#8, 0x80#8, 0x00#8] = .ok (.bne (-128), [0x00#8]) := by decide

theorem witness_LengthIsFixedByTheOpcode : (Instr.bne 1).opcode = (Instr.bne 2).opcode ∧
    decode [0x6C#8, 0xFF#8, 0x02#8] = .ok (.jmpInd 0x02FF#16, []) ∧ 0x02#8 ∈ unmappedBytes ∧
    Instr.hlt.opcode = 0x00#8 := by decide

theorem witness_StepKeepsTheInvariant : ∃ s t : State, s.wf = true ∧ step s = .next t :=
  ⟨code [0x85#8, 0x10#8] State.reset, _, by decide, rfl⟩

theorem witness_StepKeepsParametersAndBankShape :
    (∃ s t : State, step s = .next t ∧ s.prg = .unloaded) ∧
    (∃ s t : State, step s = .next t ∧ ∃ m, s.prg = .shared m) ∧
    ∃ s t : State, step s = .next t ∧ ∃ m1 m2, s.prg = .split m1 m2 :=
  ⟨⟨{ State.reset with pc := 0x0000#16 }, _, rfl, rfl⟩, ⟨code [0xEA#8] State.reset, _, rfl, _, rfl⟩,
    ⟨{ State.reset with prg := .split [] [(0, 0xEA#8)] }, _, rfl, _, _, rfl⟩⟩

theorem witness_FlagsChangeOnlyByTheirWriters :
    (∃ t, exec (.ldaImm 0x00#8) State.reset = .next t ∧ t.p.z ≠ State.reset.p.z) ∧
    (∃ t, exec (.ldaImm 0x80#8) State.reset = .next t ∧ t.p.n ≠ State.reset.p.n) ∧
    (∃ t, exec .sec State.reset = .next t ∧ t.p.c ≠ State.reset.p.c) ∧
    (∃ t, exec .sed State.reset = .next t ∧ t.p.d ≠ State.reset.p.d) ∧
    (∃ t, exec .cli State.reset = .next t ∧ t.p.i ≠ State.reset.p.i) ∧
    (∃ s t : State, exec .clv s = .next t ∧ t.p.v ≠ s.p.v) ∧
    ∃ s t : State, exec .plp s = .next t ∧ t.p.b ≠ s.p.b :=
  ⟨⟨_, rfl, by decide⟩, ⟨_, rfl, by decide⟩, ⟨_, rfl, by decide⟩, ⟨_, rfl, by decide⟩, ⟨_, rfl, by decide⟩,
    ⟨{ State.reset with p := flags 0x40#8 }, _, rfl, by decide⟩,
    ⟨{ State.reset with wram := [(0x1FE, 0x10#8)] }, _, rfl, by decide⟩⟩

theorem witness_RegistersChangeOnlyByTheirWriters :
    (∃ t, exec (.ldaImm 0x01#8) State.reset = .next t ∧ t.a ≠ State.reset.a) ∧
    (∃ s t : State, exec .aslAcc s = .next t ∧ t.a ≠ s.a) ∧
    (∃ t, exec .inx State.reset = .next t ∧ t.x ≠ State.reset.x) ∧
    (∃ t, exec .dey State.reset = .next t ∧ t.y ≠ State.reset.y) ∧
    (∃ t, exec .pha State.reset = .next t ∧ t.sp ≠ State.reset.sp) ∧
    (∃ t, exec (.jmpAbs 0x0000#16) State.reset = .next t ∧ t.pc ≠ State.reset.pc) ∧
    ∃ t, exec .hlt State.reset = .next t ∧ t.run ≠ State.reset.run :=
  ⟨⟨_, rfl, by decide⟩, ⟨{ State.reset with a := 0x81#8 }, _, rfl, by decide⟩, ⟨_, rfl, by decide⟩,
    ⟨_, rfl, by decide⟩, ⟨_, rfl, by decide⟩, ⟨_, rfl, by decide⟩, ⟨_, rfl, by decide⟩⟩

theorem witness_FrameOfInstructionsThatStoreNothing :
    (completes (.ldaAbs 0x2002#16) State.reset ∧ (Instr.ldaAbs 0x2002#16).operation ∉ storingOps ∧
      (Instr.ldaAbs 0x2002#16).operation ∉ [.pha, .php, .jsr]) ∧
    completes .aslAcc State.reset ∧ Instr.aslAcc.operation ∈ storingOps ∧ Instr.aslAcc.operand = .acc :=
  ⟨⟨⟨_, rfl⟩, by decide, by decide⟩, ⟨_, rfl⟩, by decide, rfl⟩

theorem witness_FrameOfInstructionsThatStore : State.reset.wf = true ∧
    ((Instr.incAbs 0x1FFF#16).operation ∈ storingOps ∧ (Instr.incAbs 0x1FFF#16).operand = .mem (.abs 0x1FFF#16) ∧
      resolve (.abs 0x1FFF#16) State.reset = .ok 0x1FFF#16 State.reset ∧
      completes (.incAbs 0x1FFF#16) State.reset ∧ cellAt 0x0000#16 State.reset ≠ cellAt 0x1FFF#16 State.reset ∧
      cellAt 0x1FFF#16 State.reset ≠ none) ∧
    (completes (.staAbs 0x2000#16) State.reset ∧ cellAt 0x2000#16 State.reset = none) ∧
    (completes .pha State.reset ∧ completes .php State.reset ∧ completes (.jsr 0x8000#16) State.reset) ∧
    cellAt 0x0000#16 State.reset ≠ cellAt (stackAddr State.reset.sp) State.reset ∧
    cellAt 0x0000#16 State.reset ≠ cellAt (stackAddr (State.reset.sp - 1#8)) State.reset :=
  ⟨by decide, ⟨by decide, rfl, rfl, ⟨_, rfl⟩, by decide, by decide⟩, ⟨⟨_, rfl⟩, rfl⟩,
    ⟨⟨_, rfl⟩, ⟨_, rfl⟩, _, rfl⟩, by decide, by decide⟩

theorem witness_StepFaultsAreTheTaxonomy : State.reset.run = .running ∧ (∃ f, step State.reset = .fault f) ∧
    (∃ f, busRead State.reset.pc State.reset = .fault f) ∧ ({ State.reset with run := .halted } : State).run = .halted :=
  ⟨rfl, ⟨_, rfl⟩, exists_fault (by decide), rfl⟩

theorem witness_StepFaultsAreTheTaxonomy_bus_fault : (code [0xAD#8, 0x05#8, 0x20#8] State.reset).run = .running ∧
    ∃ i s1, fetchInstr (code [0xAD#8, 0x05#8, 0x20#8] State.reset) = .ok i s1 ∧
      (match exec i s1 with | .fault _ => true | _ => false) = true :=
  ⟨rfl, exists_ok (check := fun i s1 => match exec i s1 with | .fault _ => true | _ => false) (by decide)⟩

theorem witness_FramebufferIsNeverRead : ∃ s t : State, s ≠ t ∧ SameButFb s t ∧ ∃ u, step s = .next u :=
  ⟨code [0xEA#8] State.reset, { code [0xEA#8] State.reset with fb := [(0, 1)] }, by decide, rfl, _, rfl⟩

theorem witness_CountersAreInvisible :
    ∃ s t : State, s ≠ t ∧ s.cfg.vblank = .off ∧ SameButTiming s t ∧ ∃ u, step s = .next u :=
  ⟨code [0xEA#8] State.reset,
    { code [0xEA#8] State.reset with ppu := { Ppu.reset with scanline := 241, cycle := 340 } },
    by decide, rfl, rfl, _, rfl⟩

theorem witness_CpuBusMap : (0x1FFF#16 : Word).toNat < 0x2000 ∧
    (0x2000 ≤ (0x2000#16 : Word).toNat ∧ (0x3FFF#16 : Word).toNat < 0x4000) ∧
    (0x4000 ≤ (0x4000#16 : Word).toNat ∧ (0x401F#16 : Word).toNat < 0x4020 ∧ 0x401F#16 ≠ 0x4014#16) ∧
    0x4020 ≤ (0x4020#16 : Word).toNat ∧ (0x7FFF#16 : Word).toNat < 0x8000 := by decide

theorem witness_BankReadsAndWrites : (∃ m1 m2, bank32.prg = .split m1 m2) ∧ (∃ m, bank16.prg = .shared m) ∧
    bank32.cfg.prgWrite = .store ∧ bank16.cfg.prgWrite = .store ∧ bank16.wf = true ∧
    (0x8000 ≤ (0x8000#16 : Word).toNat ∧ (0xBFFF#16 : Word).toNat < 0xC000 ∧ 0xC000 ≤ (0xC000#16 : Word).toNat) ∧
    writes (BitVec.ofNat 16 (0x8000 + 0x3FFF)) 0xAB#8 bank16 :=
  ⟨⟨_, _, rfl⟩, ⟨_, rfl⟩, rfl, rfl, by decide, by decide,
    (exists_ok (check := fun _ _ => true) (by decide)).elim fun _ h => h.elim fun t h => ⟨t, h.1⟩⟩

theorem witness_WriteIsReadBackAtEveryMirror :
    (State.reset.wf = true ∧ CanWrite 0x1800#16 State.reset ∧ cellAt 0x1800#16 State.reset = some (.wram, 0)) ∧
    (bank16.wf = true ∧ CanWrite 0xFFFF#16 bank16 ∧ cellAt 0xFFFF#16 bank16 = some (.prg1, 0x3FFF) ∧
      bank16.cfg.prgWrite ≠ .ignore) ∧
    (under { Config.default with prgWrite := .ignore }).wf = true ∧
    CanWrite 0x0000#16 (under { Config.default with prgWrite := .ignore }) ∧
    CanWrite 0x8000#16 (under { Config.default with prgWrite := .ignore }) ∧
    cellAt 0x8000#16 (under { Config.default with prgWrite := .ignore }) = some (.prg1, 0) :=
  ⟨⟨by decide, trivial, rfl⟩, ⟨by decide, .inr ⟨rfl, nofun⟩, rfl, by decide⟩, by decide, trivial, .inl rfl, rfl⟩

theorem witness_BusReadSideEffects : reads 0x2002#16 State.reset ∧ reads 0x8123#16 bank16 ∧
    reads 0x3F00#16 State.reset ∧ reads 0x2005#16 (under { Config.default with regAccess := .permissive }) ∧
    reads 0x2007#16 { State.reset with ppu := { Ppu.reset with vaddr := ⟨0x2000#16, .first⟩ } } :=
  ⟨reads_of (by decide), reads_of (by decide), reads_of (by decide), reads_of rfl, reads_of (by decide)⟩

theorem witness_BusAccessCompletesOrFaults :
    (CanRead 0x1FFF#16 State.reset ∧ CanRead 0x3FFA#16 State.reset ∧ CanRead 0xFFFF#16 bank16) ∧
    (CanWrite 0x1FFF#16 State.reset ∧ CanWrite 0x2005#16 State.reset ∧ CanWrite 0x8000#16 bank16) ∧
    (¬ CanRead 0x8000#16 State.reset ∧ ¬ CanRead 0x2005#16 State.reset ∧ ¬ CanRead 0x3FFF#16 State.reset) ∧
    ¬ CanWrite 0xFFFF#16 State.reset ∧ ¬ CanWrite 0x2002#16 State.reset ∧ ¬ CanWrite 0x2007#16 State.reset ∧
    ¬ CanWrite 0x8000#16 (under { Config.default with prgWrite := .fault }) :=
  ⟨⟨trivial, ⟨by decide, by decide⟩, nofun⟩, ⟨trivial, ⟨by decide, by decide⟩, .inr ⟨rfl, nofun⟩⟩,
    ⟨fun h => h rfl, fun h => h.1 ⟨rfl, .inl rfl⟩, fun h => h.2 ⟨rfl, by decide⟩⟩,
    fun h => h.elim nofun fun h => h.2 rfl, fun h => h.1 ⟨rfl, rfl⟩, fun h => h.2 ⟨rfl, by decide⟩,
    fun h => h.elim nofun nofun⟩

theorem witness_PpuBusMap : (0x1FFF#14 : PpuAddr).toNat < 0x2000 ∧
    (0x2000 ≤ (0x2000#14 : PpuAddr).toNat ∧ (0x2FFF#14 : PpuAddr).toNat < 0x3000) ∧
    (0x3000 ≤ (0x3000#14 : PpuAddr).toNat ∧ (0x3EFF#14 : PpuAddr).toNat < 0x3F00) ∧
    0x3F00 ≤ (0x3F00#14 : PpuAddr).toNat := by decide

theorem witness_ControlAndMaskRegisters :
    (∃ b t, writeRegister 0x2000#16 0xFF#8 State.reset = .ok b t ∧ decide (b = 0xFF#8) = true) ∧
    ∃ b t, writeRegister 0x2001#16 0xFF#8 State.reset = .ok b t ∧ decide (b = 0xFF#8) = true :=
  ⟨exists_ok (check := fun b _ => decide (b = 0xFF#8)) (by decide),
    exists_ok (check := fun b _ => decide (b = 0xFF#8)) (by decide)⟩

theorem witness_StatusRegister : State.reset.cfg.regAccess = .strict ∧
    (under { Config.default with regAccess := .permissive }).cfg.regAccess = .permissive := ⟨rfl, rfl⟩

theorem witness_OamRegisters : State.reset.cfg.oamDataIncrement = false := rfl

/-- A status read, then two writes of 0x2006: all complete. -/
theorem witness_WriteTwiceLatches : ∃ b t, ((readRegister 0x2002#16 State.reset).andThen fun _ s1 =>
    (writeRegister 0x2006#16 0x21#8 s1).andThen fun _ s2 => writeRegister 0x2006#16 0x08#8 s2) = .ok b t ∧
    decide (b = 0x08#8 ∧ t.ppu.vaddr.value = 0x2108#16) = true :=
  exists_ok (check := fun b t => decide (b = 0x08#8 ∧ t.ppu.vaddr.value = 0x2108#16)) (by decide)

theorem witness_PolicyAlternatives :
    (under { Config.default with regAccess := .permissive }).cfg.regAccess = .permissive ∧
    (under { Config.default with oamDataIncrement := true }).cfg.oamDataIncrement = true := ⟨rfl, rfl⟩

theorem witness_StatusFlagsByPolicy :
    (∃ s t : State, s.cfg.vblank = .off ∧ step s = .next t) ∧
    (∀ p ∈ [(241, 0), (261, 0), (241, 1), (240, 0)], ∃ s : State, s.cfg.vblank = .standard ∧
      s.ppu.scanline = p.1 ∧ s.ppu.cycle = p.2) ∧
    ∃ b t, readRegister 0x2002#16 (under { Config.default with vblank := .standard }) = .ok b t :=
  ⟨⟨code [0xEA#8] State.reset, _, rfl, rfl⟩, fun p _ => ⟨{ under { Config.default with vblank := .standard } with
    ppu := { Ppu.reset with scanline := p.1, cycle := p.2 } }, rfl, rfl, rfl⟩, _, _, rfl⟩

theorem witness_DataPort : [0x0000#16, 0x1FFF#16, 0x2000#16, 0x3EFF#16, 0x3F00#16, 0x3FFF#16].map (fun a =>
    dataAddr { State.reset with ppu := { Ppu.reset with vaddr := ⟨a, .first⟩ } }) =
    [0x0000, 0x1FFF, 0x2000, 0x3EFF, 0x3F00, 0x3FFF] := by decide

theorem witness_OnlyNineRegisters : 0x2008#16 ∉ [0x2000#16, 0x2001#16, 0x2002#16, 0x2003#16, 0x2004#16, 0x2005#16,
    0x2006#16, 0x2007#16, 0x4014#16] := by decide

theorem witness_PpuClock : State.reset.cfg.vblank = .off := rfl

theorem witness_CountersAfterAnyNumberOfClocks : (State.reset.ppu.scanline = 0 ∧ State.reset.ppu.cycle = 0) ∧
    ∃ s : State, s.ppu.scanline ≤ 261 ∧ s.ppu.cycle ≤ 340 ∧ s.ppu.scanline = 261 ∧ s.ppu.cycle = 340 :=
  ⟨⟨rfl, rfl⟩, { State.reset with ppu := { Ppu.reset with scanline := 261, cycle := 340 } }, by decide, by decide,
    rfl, rfl⟩

theorem witness_FrameWritesEveryCellOnce : State.reset.ppu.scanline = 0 ∧ State.reset.ppu.cycle = 0 := ⟨rfl, rfl⟩

theorem witness_LoadStoreModify : ∃ (old : Byte) (s2 t : State) (e : Fault),
    resolve (.zp 0xFF#8) State.reset = .ok 0x00FF#16 State.reset ∧ busRead 0x00FF#16 State.reset = .ok old s2 ∧
    busWrite 0x00FF#16 0x01#8 s2 = .ok () t ∧ busRead 0x2006#16 State.reset = .fault e :=
  ⟨_, _, _, _, rfl, rfl, rfl, rfl⟩

theorem witness_LoadStoreModify_write_fault : ∃ (v : Byte) (s t : State) (e : Fault),
    resolve (.abs 0x2002#16) s = .ok 0x2002#16 s ∧ busRead 0x2002#16 s = .ok v t ∧
    busWrite 0x2002#16 v t = .fault e :=
  ⟨_, State.reset, _, _, rfl, rfl, rfl⟩

/-- A read of an operand completes, and one faults: for every statement through `ReadsOperand`. -/
theorem witness_ReadsOperand :
    (∃ v t, load (.imm 0x80#8) State.reset = .ok v t) ∧ (∃ v t, load (.mem (.zp 0xFF#8)) State.reset = .ok v t) ∧
    ∃ e, load (.mem (.abs 0x2005#16)) State.reset = .fault e :=
  ⟨⟨_, _, rfl⟩, ⟨_, _, rfl⟩, _, rfl⟩

/-- A write completes, and one faults: for every statement through `StoresByte`. -/
theorem witness_StoresByte : resolve (.zp 0xFF#8) State.reset = .ok 0x00FF#16 State.reset ∧
    writes 0x00FF#16 0x00#8 State.reset ∧ ∃ e, busWrite 0x2002#16 0x00#8 State.reset = .fault e :=
  ⟨rfl, ⟨_, rfl⟩, _, rfl⟩

theorem witness_LoadInstructions :
    ((Instr.ldaImm 0x80#8).operation = .lda ∧ (Instr.ldaImm 0x80#8).operand = (Src.imm 0x80#8).operand) ∧
    ((Instr.ldxAbs 0x2005#16).operation = .ldx ∧
      (Instr.ldxAbs 0x2005#16).operand = (Src.mem (.abs 0x2005#16)).operand) ∧
    ((Instr.ldyZp 0xFF#8).operation = .ldy ∧ (Instr.ldyZp 0xFF#8).operand = (Src.mem (.zp 0xFF#8)).operand) ∧
    (Instr.laxZp 0xFF#8).operation = .lax ∧ (Instr.laxZp 0xFF#8).operand = (Src.mem (.zp 0xFF#8)).operand := by decide

theorem witness_StoreInstructions :
    ((Instr.staZp 0xFF#8).operation = .sta ∧ (Instr.staZp 0xFF#8).operand = .mem (.zp 0xFF#8)) ∧
    ((Instr.stxAbs 0x2002#16).operation = .stx ∧ (Instr.stxAbs 0x2002#16).operand = .mem (.abs 0x2002#16)) ∧
    ((Instr.styZp 0xFF#8).operation = .sty ∧ (Instr.styZp 0xFF#8).operand = .mem (.zp 0xFF#8)) ∧
    (Instr.aaxZp 0xFF#8).operation = .aax ∧ (Instr.aaxZp 0xFF#8).operand = .mem (.zp 0xFF#8) := by decide

theorem witness_AddAndSubtract : (Instr.adcImm 0x80#8).operation = .adc ∧ (Instr.sbcImmEB 0x80#8).operation = .sbc ∧
    (Instr.adcImm 0x80#8).operand = (Src.imm 0x80#8).operand ∧
    (Instr.sbcImmEB 0x80#8).operand = (Src.imm 0x80#8).operand := by decide

theorem witness_BitwiseInstructions : ∀ i ∈ [(.andZp 0xFF#8, .and), (.oraZp 0xFF#8, .ora), (.eorZp 0xFF#8, .eor),
    ((.bitZp 0xFF#8, .bit) : Instr × Operation)],
    i.1.operation = i.2 ∧ i.1.operand = (Src.mem (.zp 0xFF#8)).operand := by decide

theorem witness_CompareInstructions : ∀ i ∈ [(.cmpZp 0xFF#8, .cmp), (.cpxZp 0xFF#8, .cpx),
    ((.cpyZp 0xFF#8, .cpy) : Instr × Operation)],
    i.1.operation = i.2 ∧ i.1.operand = (Src.mem (.zp 0xFF#8)).operand := by decide

/-- The access conditions of these are `witness_LoadStoreModify` and `witness_LoadStoreModify_write_fault`. -/
theorem witness_MemoryIncrementAndDecrement : ∀ i ∈ [(.incZp 0xFF#8, .inc),
    ((.decZp 0xFF#8, .dec) : Instr × Operation)], i.1.operation = i.2 ∧ i.1.operand = .mem (.zp 0xFF#8) := by decide

theorem witness_ShiftsAndRotates : (∀ i ∈ [Instr.aslAcc, .lsrAcc, .rolAcc, .rorAcc],
      i.operation ∈ [.asl, .lsr, .rol, .ror] ∧ i.operand = .acc) ∧
    ∀ i ∈ [Instr.aslZp 0xFF#8, .lsrZp 0xFF#8, .rolZp 0xFF#8, .rorZp 0xFF#8],
      i.operation ∈ [.asl, .lsr, .rol, .ror] ∧ i.operand = .mem (.zp 0xFF#8) := by decide

theorem witness_StackInstructions : State.reset.wf = true ∧ State.reset.cfg.pullB = .load ∧
    (under { Config.default with pullB := .keep }).cfg.pullB = .keep := by decide

theorem witness_NoOperations : ∀ i ∈ [Instr.nop, .nop1A, .nop3A, .nop5A, .nop7A, .nopDA, .nopFA, .skbImm 0xFF#8,
    .skwAbs 0x2002#16], i.operation ∈ [.nop, .skb, .skw] := by decide

theorem witness_BranchInstructions : ∀ d ∈ [(-128 : Int), 127], ∀ cond ∈ [true, false],
    ((.bne d, cond) : Instr × Bool) ∈ [((.bne d, !(if cond then false else true)) : Instr × Bool)] := by decide

theorem witness_JumpInstructions : reads 0x02FF#16 State.reset ∧
    reads ((0x02FF#16 &&& 0xFF00#16) ||| ((0x02FF#16 + 1#16) &&& 0x00FF#16)) State.reset ∧
    (∃ e, busRead 0x2005#16 State.reset = .fault e) ∧
    ∃ s1, busRead 0x2004#16 State.reset = .ok 0x00#8 s1 ∧ ∃ e, busRead 0x2005#16 s1 = .fault e :=
  ⟨⟨_, _, rfl⟩, ⟨_, _, rfl⟩, ⟨_, rfl⟩, _, rfl, _, rfl⟩

theorem witness_SubroutineCallAndReturn : State.reset.wf = true := by decide

theorem witness_CombinedReadModifyWrite : ∀ i ∈ [(.sloZp 0xFF#8, .slo), (.rlaZp 0xFF#8, .rla), (.sreZp 0xFF#8, .sre),
    (.rraZp 0xFF#8, .rra), (.dcpZp 0xFF#8, .dcp), ((.iscZp 0xFF#8, .isc) : Instr × Operation)],
    i.1.operation = i.2 ∧ i.1.operand = .mem (.zp 0xFF#8) := by decide

theorem witness_EveryInstructionCompletesOrFaults : AccessesCanComplete (.ldaZp 0xFF#8) State.reset ∧
    ¬ AccessesCanComplete (.ldaAbs 0x2005#16) State.reset := by
  refine ⟨⟨fun m addr s1 ho hr => ?_, nofun⟩, fun h => ?_⟩
  · cases ho
    cases hr
    exact ⟨fun _ => ⟨trivial, fun h => absurd h (by decide)⟩, fun h => absurd (by decide) h⟩
  · exact ((h.1 _ _ _ rfl rfl).1 (by decide)).1.1 ⟨rfl, .inl rfl⟩

/-- Each clause that names a fault: a read, a write after a read, a write alone, the two reads of a pointer. -/
theorem witness_EveryInstructionCompletesOrFaults_faults :
    (Operation.lda ∈ readingOps ∧ ¬ CanRead 0x2005#16 State.reset) ∧
    (Operation.inc ∈ readingOps ∧ Operation.inc ∈ storingOps ∧ reads 0x2002#16 State.reset ∧
      ¬ CanWrite 0x2002#16 State.reset) ∧
    (Operation.sta ∉ readingOps ∧ Operation.sta ∈ storingOps ∧ ¬ CanWrite 0x2002#16 State.reset) ∧
    (Instr.jmpInd 0x2004#16).operand = .ind 0x2004#16 ∧ reads 0x2004#16 State.reset ∧
    (0x2004#16 &&& 0xFF00#16) ||| ((0x2004#16 + 1#16) &&& 0x00FF#16) = 0x2005#16 :=
  ⟨⟨by decide, fun h => h.1 ⟨rfl, .inl rfl⟩⟩, ⟨by decide, by decide, reads_of (by decide), fun h => h.1 ⟨rfl, rfl⟩⟩,
    ⟨by decide, by decide, fun h => h.1 ⟨rfl, rfl⟩⟩, rfl, reads_of (by decide), by decide⟩

/-- INC $2002 in strict mode: the write faults, and the toggles that its read has put back stay back
(notes/assumptions/6.md). -/
theorem test_left_by_write_fault :
    (match exec (.incAbs 0x2002#16) { State.reset with ppu := { Ppu.reset with scroll := ⟨0x1200#16, .second⟩ } } with
      | .fault f => decide (f = .readOnlyRegisterWrite 0x2002#16)
      | _ => false) = true ∧
    (accessesBeforeFault (.incAbs 0x2002#16)
      { State.reset with ppu := { Ppu.reset with scroll := ⟨0x1200#16, .second⟩ } }).ppu.scroll = ⟨0x1200#16, .first⟩ :=
  by decide

theorem witness_CostOfEachInstruction : Instr.nop ≠ .hlt ∧ 0x02#8 ∈ unmappedBytes := by decide

/-- The state with these bytes as the last of the save RAM, `PC` at the first, and no image above them. -/
def atSramEnd (bytes : List Byte) : State :=
  let start := 0x8000 - bytes.length
  { State.reset with pc := BitVec.ofNat 16 start, sram := Memory.writeSlice [] (start - 0x4020) bytes }

theorem witness_TraceLineShowsTheStateBefore :
    ((code [0xEA#8] State.reset).run = .running ∧
      ∃ i s1, fetchInstr (code [0xEA#8] State.reset) = .ok i s1 ∧ decide (i = Instr.nop) = true) ∧
    (∃ f, fetchInstr State.reset = .fault f) ∧
    (∃ b u, busRead 0xC000#16 (code [0x02#8] State.reset) = .ok b u ∧ decide (b ∈ unmappedBytes) = true) ∧
    (∃ f, busRead State.reset.pc State.reset = .fault f) ∧
    (∃ t, step (code [0xEA#8] State.reset) = .next t) ∧ (∃ f, step State.reset = .fault f) ∧
    ({ State.reset with run := .halted } : State).run = .halted :=
  ⟨⟨rfl, exists_ok (check := fun i _ => decide (i = Instr.nop)) (by decide)⟩, exists_fault (by decide),
    exists_ok (check := fun b _ => decide (b ∈ unmappedBytes)) (by decide), exists_fault (by decide), ⟨_, rfl⟩,
    ⟨_, rfl⟩, rfl⟩

/-- The fetch from this state faults. -/
def fetchFaults (s : State) : Bool :=
  match fetch s with
  | .ok _ _ => false
  | .fault _ => true

/-- The fetch from this state gives this byte, and the one after it faults. -/
def fetchFaultsAfter (b : Byte) (s : State) : Bool :=
  match fetch s with
  | .ok c s1 => decide (c = b) && fetchFaults s1
  | .fault _ => false

theorem witness_TraceLineShowsTheStateBefore_second_byte :
    (atSramEnd [0xA9#8]).run = .running ∧
    (∃ b u, fetch (atSramEnd [0xA9#8]) = .ok b u ∧
      (decide (b = (Instr.ldaImm 0x00#8).opcode) && fetchFaults u) = true) ∧
    ∃ b u, fetch (atSramEnd [0xAD#8]) = .ok b u ∧
      (decide (b = (Instr.ldaAbs 0x0000#16).opcode) && fetchFaults u) = true :=
  ⟨rfl, exists_ok (check := fun b u => decide (b = (Instr.ldaImm 0x00#8).opcode) && fetchFaults u) (by decide),
    exists_ok (check := fun b u => decide (b = (Instr.ldaAbs 0x0000#16).opcode) && fetchFaults u) (by decide)⟩

theorem witness_TraceLineShowsTheStateBefore_third_byte :
    (atSramEnd [0xAD#8, 0x34#8]).run = .running ∧
    ∃ b u, fetch (atSramEnd [0xAD#8, 0x34#8]) = .ok b u ∧
      (decide (b = (Instr.ldaAbs 0x0000#16).opcode) && fetchFaultsAfter 0x34#8 u) = true :=
  ⟨rfl, exists_ok (check := fun b u => decide (b = (Instr.ldaAbs 0x0000#16).opcode) && fetchFaultsAfter 0x34#8 u)
    (by decide)⟩

/-- 55_console.md R356 with 40_cpu_common.md R131 on `LDA #$42`: two fetched bytes, each with `PC` past it, then the
completed instruction. -/
theorem test_observer_lda : observerEvents (code [0xA9#8, 0x42#8] State.reset) =
    [.fetched 0xA9#8 ⟨0xC001#16, 0x00#8, 0x00#8, 0x00#8, 0xFD#8, flags 0x24#8⟩,
      .fetched 0x42#8 ⟨0xC002#16, 0x00#8, 0x00#8, 0x00#8, 0xFD#8, flags 0x24#8⟩,
      .completed ⟨0xC002#16, 0x42#8, 0x00#8, 0x00#8, 0xFD#8, flags 0x24#8⟩] := by decide

/-- 60_exceptions.md R382 on `LDA $2005`: `PC` past the three bytes when the read faults. -/
theorem test_left_by_bus_fault : (leftByFault (code [0xAD#8, 0x05#8, 0x20#8] State.reset)).pc = 0xC003#16 ∧
    observed (code [0xAD#8, 0x05#8, 0x20#8] State.reset) = [0xAD#8, 0x05#8, 0x20#8] := by decide

end Sys2Proof.Machine.Tests
end

section
/-! PROOFS. The two buses (20_memory.md sections 2 and 3): what each range of addresses decodes to, what an access does
once its target is known, and from these the maps of O22, O23 and O27. -/

namespace Sys2Proof.Machine

/-! The decoder of the CpuBus, range by range. -/

theorem cpuTarget_wram {addr : Word} (h : addr.toNat < 0x2000) :
    cpuTarget addr = .cell .wram (addr.toNat % 0x800) := by
  simp [cpuTarget, h]

theorem cpuTarget_ppuWindow {addr : Word} (h : 0x2000 ≤ addr.toNat) (h' : addr.toNat < 0x4000) :
    cpuTarget addr = .ppuRegister (0x2000#16 + BitVec.ofNat 16 ((addr.toNat - 0x2000) % 8)) := by
  simp only [cpuTarget, if_neg (Nat.not_lt.mpr h), if_pos h', BitVec.ofNat_add]

theorem cpuTarget_oamDma : cpuTarget 0x4014#16 = .ppuRegister 0x4014#16 := by decide

theorem cpuTarget_ioreg {addr : Word} (h : 0x4000 ≤ addr.toNat) (h' : addr.toNat < 0x4020)
    (hne : addr ≠ 0x4014#16) : cpuTarget addr = .cell .ioreg (addr.toNat - 0x4000) := by
  have hdma : addr.toNat ≠ 0x4014 := fun e => hne (BitVec.eq_of_toNat_eq e)
  simp only [cpuTarget, if_neg (by omega : ¬ addr.toNat < 0x2000), if_neg (Nat.not_lt.mpr h), if_neg hdma, if_pos h']

/-- From 0x4020 on the decoder is left with save RAM and the two bank slots. -/
theorem cpuTarget_of_ge_4020 {addr : Word} (h : 0x4020 ≤ addr.toNat) :
    cpuTarget addr =
      if addr.toNat < 0x8000 then .cell .sram (addr.toNat - 0x4020)
      else if addr.toNat < 0xC000 then .cell .prg1 (addr.toNat - 0x8000)
      else .cell .prg2 (addr.toNat - 0xC000) := by
  simp only [cpuTarget, if_neg (by omega : ¬ addr.toNat < 0x2000), if_neg (by omega : ¬ addr.toNat < 0x4000),
    if_neg (by omega : addr.toNat ≠ 0x4014), if_neg (Nat.not_lt.mpr h)]

theorem cpuTarget_sram {addr : Word} (h : 0x4020 ≤ addr.toNat) (h' : addr.toNat < 0x8000) :
    cpuTarget addr = .cell .sram (addr.toNat - 0x4020) := by
  rw [cpuTarget_of_ge_4020 h, if_pos h']

theorem cpuTarget_prg1 {addr : Word} (h : 0x8000 ≤ addr.toNat) (h' : addr.toNat < 0xC000) :
    cpuTarget addr = .cell .prg1 (addr.toNat - 0x8000) := by
  rw [cpuTarget_of_ge_4020 (by omega), if_neg (by omega), if_pos h']

theorem cpuTarget_prg2 {addr : Word} (h : 0xC000 ≤ addr.toNat) :
    cpuTarget addr = .cell .prg2 (addr.toNat - 0xC000) := by
  rw [cpuTarget_of_ge_4020 (by omega), if_neg (by omega), if_neg (by omega)]

/-! The decoder of the PpuBus, range by range. -/

theorem ppuTarget_below {a : PpuAddr} (h : a.toNat < 0x2000) : ppuTarget a = none := by
  simp [ppuTarget, h]

theorem ppuTarget_nt {a : PpuAddr} (h : 0x2000 ≤ a.toNat) (h' : a.toNat < 0x3000) :
    ppuTarget a = some (.nt, a.toNat - 0x2000) := by
  simp only [ppuTarget, if_neg (Nat.not_lt.mpr h), if_pos h']

theorem ppuTarget_ntMirror {a : PpuAddr} (h : 0x3000 ≤ a.toNat) (h' : a.toNat < 0x3F00) :
    ppuTarget a = some (.nt, a.toNat - 0x3000) := by
  simp only [ppuTarget, if_neg (by omega : ¬ a.toNat < 0x2000), if_neg (Nat.not_lt.mpr h), if_pos h']

theorem ppuTarget_pal {a : PpuAddr} (h : 0x3F00 ≤ a.toNat) :
    ppuTarget a = some (.pal, (a.toNat - 0x3F00) % 0x20) := by
  simp only [ppuTarget, if_neg (by omega : ¬ a.toNat < 0x2000), if_neg (by omega : ¬ a.toNat < 0x3000),
    if_neg (Nat.not_lt.mpr h)]

/-! What an access does once its target is known. -/

theorem readCell_of_memOf {r : Region} {i : Nat} {s : State} {m : Memory} (hi : i < r.size)
    (hm : s.memOf r = some m) : readCell r i s = .ok (m.read i) s :=
  readCell_eq_ok.mpr ⟨hi, ⟨m, hm, rfl⟩, rfl⟩

theorem writeCell_of_memOf {r : Region} {i : Nat} {s : State} {m : Memory} (v : Byte) (hi : i < r.size)
    (hm : s.memOf r = some m) : writeCell r i v s = .ok () (s.setMem r (m.write i v)) :=
  writeCell_eq_ok.mpr ⟨hi, m, hm, rfl⟩

theorem busRead_of_cell {addr : Word} {r : Region} {i : Nat} {s : State} {m : Memory}
    (hc : cpuTarget addr = .cell r i) (hi : i < r.size) (hm : s.memOf r = some m) :
    busRead addr s = .ok (m.read i) s := by
  simp only [busRead, hc, readCell_of_memOf hi hm]

theorem busRead_of_register {addr reg : Word} (s : State) (hc : cpuTarget addr = .ppuRegister reg) :
    busRead addr s = readRegister reg s := by
  simp only [busRead, hc]

theorem busWrite_of_register {addr reg : Word} (v : Byte) (s : State) (hc : cpuTarget addr = .ppuRegister reg) :
    busWrite addr v s = (writeRegister reg v s).andThen fun _ t => .ok () t := by
  simp only [busWrite, hc]

theorem busWrite_of_bank {addr : Word} {r : Region} {i : Nat} (v : Byte) (s : State)
    (hc : cpuTarget addr = .cell r i) (hr : r = .prg1 ∨ r = .prg2) :
    busWrite addr v s = writeBank addr r i v s := by
  rcases hr with rfl | rfl <;> simp only [busWrite, hc]

theorem busWrite_of_cell {addr : Word} {r : Region} {i : Nat} {s : State} {m : Memory} (v : Byte)
    (hc : cpuTarget addr = .cell r i) (h1 : r ≠ .prg1) (h2 : r ≠ .prg2) (hi : i < r.size)
    (hm : s.memOf r = some m) : busWrite addr v s = .ok () (s.setMem r (m.write i v)) := by
  cases r
  case prg1 => exact absurd rfl h1
  case prg2 => exact absurd rfl h2
  all_goals simp only [busWrite, hc, writeCell_of_memOf v hi hm]

theorem ppuRead_of_target {a : PpuAddr} {r : Region} {i : Nat} {s : State} {m : Memory}
    (hc : ppuTarget a = some (r, i)) (hi : i < r.size) (hm : s.memOf r = some m) :
    ppuRead a s = .ok (m.read i) s := by
  simp only [ppuRead, hc, readCell_of_memOf hi hm]

theorem ppuWrite_of_target {a : PpuAddr} {r : Region} {i : Nat} {s : State} {m : Memory} (v : Byte)
    (hc : ppuTarget a = some (r, i)) (hi : i < r.size) (hm : s.memOf r = some m) :
    ppuWrite a v s = .ok () (s.setMem r (m.write i v)) := by
  simp only [ppuWrite, hc, writeCell_of_memOf v hi hm]

/-! The two bank slots, for either shape of the banks (20_memory.md R69 to R72). -/

theorem busRead_slot1 {addr : Word} {s : State} {m : Memory} (h : 0x8000 ≤ addr.toNat) (h' : addr.toNat < 0xC000)
    (hm : s.prg.bank1 = some m) : busRead addr s = .ok (m.read (addr.toNat - 0x8000)) s :=
  busRead_of_cell (cpuTarget_prg1 h h') (by simp only [Region.size]; omega) hm

theorem busRead_slot2 {addr : Word} {s : State} {m : Memory} (h : 0xC000 ≤ addr.toNat)
    (hm : s.prg.bank2 = some m) : busRead addr s = .ok (m.read (addr.toNat - 0xC000)) s :=
  busRead_of_cell (cpuTarget_prg2 h) (by simp only [Region.size]; omega) hm

theorem writeBank_of_store {addr : Word} {r : Region} {i : Nat} {s : State} {m : Memory} (v : Byte)
    (hp : s.cfg.prgWrite = .store) (hi : i < r.size) (hm : s.memOf r = some m) :
    writeBank addr r i v s = .ok () (s.setMem r (m.write i v)) := by
  simp only [writeBank, hp, writeCell_of_memOf v hi hm]

theorem busWrite_slot1_of_store {addr : Word} {s : State} {m : Memory} (v : Byte) (hp : s.cfg.prgWrite = .store)
    (h : 0x8000 ≤ addr.toNat) (h' : addr.toNat < 0xC000) (hm : s.prg.bank1 = some m) :
    busWrite addr v s = .ok () { s with prg := s.prg.setBank1 (m.write (addr.toNat - 0x8000) v) } :=
  (busWrite_of_bank v s (cpuTarget_prg1 h h') (.inl rfl)).trans
    (writeBank_of_store (r := .prg1) v hp (by simp only [Region.size]; omega) hm)

theorem busWrite_slot2_of_store {addr : Word} {s : State} {m : Memory} (v : Byte) (hp : s.cfg.prgWrite = .store)
    (h : 0xC000 ≤ addr.toNat) (hm : s.prg.bank2 = some m) :
    busWrite addr v s = .ok () { s with prg := s.prg.setBank2 (m.write (addr.toNat - 0xC000) v) } :=
  (busWrite_of_bank v s (cpuTarget_prg2 h) (.inr rfl)).trans
    (writeBank_of_store (r := .prg2) v hp (by simp only [Region.size]; omega) hm)

/-- From 0x8000 on a write is one to a bank, decided by `PRG_WRITE_POLICY`. -/
theorem busWrite_of_ge_8000 {addr : Word} (h : 0x8000 ≤ addr.toNat) (v : Byte) (s : State) :
    ∃ r i, busWrite addr v s = writeBank addr r i v s := by
  by_cases h' : addr.toNat < 0xC000
  · exact ⟨_, _, busWrite_of_bank v s (cpuTarget_prg1 h h') (.inl rfl)⟩
  · exact ⟨_, _, busWrite_of_bank v s (cpuTarget_prg2 (Nat.not_lt.mp h')) (.inr rfl)⟩

theorem busWrite_of_ignore {addr : Word} {s : State} (v : Byte) (h : 0x8000 ≤ addr.toNat)
    (hp : s.cfg.prgWrite = .ignore) : busWrite addr v s = .ok () s := by
  obtain ⟨r, i, hw⟩ := busWrite_of_ge_8000 h v s
  simp only [hw, writeBank, hp]

theorem busWrite_of_fault {addr : Word} {s : State} (v : Byte) (h : 0x8000 ≤ addr.toNat)
    (hp : s.cfg.prgWrite = .fault) : busWrite addr v s = .fault (.romWrite addr) := by
  obtain ⟨r, i, hw⟩ := busWrite_of_ge_8000 h v s
  simp only [hw, writeBank, hp]

/-- In a 16 KB image a stored byte at `0x8000 + k` is read back at `0xC000 + k` (20_memory.md R72). -/
theorem busRead_alias_of_store {k : Nat} {v : Byte} {s t : State} {m : Memory} (hs : s.wf = true) (hk : k < 0x4000)
    (hm : s.prg = .shared m) (hp : s.cfg.prgWrite = .store)
    (hw : busWrite (BitVec.ofNat 16 (0x8000 + k)) v s = .ok () t) :
    busRead (BitVec.ofNat 16 (0xC000 + k)) t = .ok v t := by
  have hlow : (BitVec.ofNat 16 (0x8000 + k)).toNat = 0x8000 + k := Nat.mod_eq_of_lt (by omega)
  have hhigh : (BitVec.ofNat 16 (0xC000 + k)).toNat = 0xC000 + k := Nat.mod_eq_of_lt (by omega)
  have hbuf : m.wf 0x4000 = true := by
    obtain ⟨_, _, _, hprg, _⟩ := s.wf_iff.mp hs
    rwa [hm] at hprg
  have hstored : t = { s with prg := .shared (m.write k v) } := by
    rw [busWrite_slot1_of_store v hp (by omega) (by omega) (by rw [hm]; rfl), hlow, hm, Nat.add_sub_cancel_left] at hw
    cases hw
    rfl
  have hread := busRead_slot2 (addr := BitVec.ofNat 16 (0xC000 + k)) (s := t) (m := m.write k v) (by omega)
    (by rw [hstored]; rfl)
  rw [hread, hhigh, Nat.add_sub_cancel_left, Memory.read_write_same k v hbuf]

/-! The obligations. -/

/-- Settles O22: each range decodes to its region or register, and the access follows from the target. -/
theorem cpuBusMap : Obligations.CpuBusMap := by
  intro addr v s
  refine ⟨fun h => ?wram, fun h h' => ?window, fun h h' hne => ?ioreg, fun h => ?oamDma, fun h h' => ?sram⟩
  case wram =>
    have hi : addr.toNat % 0x800 < Region.wram.size := Nat.mod_lt _ (by decide)
    exact ⟨busRead_of_cell (cpuTarget_wram h) hi rfl,
      busWrite_of_cell v (cpuTarget_wram h) nofun nofun hi rfl⟩
  case window =>
    exact ⟨busRead_of_register s (cpuTarget_ppuWindow h h'), busWrite_of_register v s (cpuTarget_ppuWindow h h')⟩
  case ioreg =>
    have hi : addr.toNat - 0x4000 < Region.ioreg.size := by simp only [Region.size]; omega
    exact ⟨busRead_of_cell (cpuTarget_ioreg h h' hne) hi rfl,
      busWrite_of_cell v (cpuTarget_ioreg h h' hne) nofun nofun hi rfl⟩
  case oamDma =>
    subst h
    exact ⟨busRead_of_register s cpuTarget_oamDma, busWrite_of_register v s cpuTarget_oamDma⟩
  case sram =>
    have hi : addr.toNat - 0x4020 < Region.sram.size := by simp only [Region.size]; omega
    exact ⟨busRead_of_cell (cpuTarget_sram h h') hi rfl,
      busWrite_of_cell v (cpuTarget_sram h h') nofun nofun hi rfl⟩

/-- Settles O23: the slots' rules, read at each shape of the banks. -/
theorem bankReadsAndWrites : Obligations.BankReadsAndWrites := by
  refine ⟨fun addr s m1 m2 hm => ?readSplit, fun addr s m hm => ?readShared,
    fun addr v s m1 m2 hp hm => ?storeSplit, fun addr v s m hp hm => ?storeShared,
    fun addr v s h => ⟨busWrite_of_ignore v h, busWrite_of_fault v h⟩,
    fun k v s t m hs hk hm hp => busRead_alias_of_store hs hk hm hp⟩
  case readSplit =>
    exact ⟨fun h h' => busRead_slot1 h h' (by rw [hm]; rfl), fun h => busRead_slot2 h (by rw [hm]; rfl)⟩
  case readShared =>
    exact ⟨fun h h' => busRead_slot1 h h' (by rw [hm]; rfl), fun h => busRead_slot2 h (by rw [hm]; rfl)⟩
  case storeSplit =>
    refine ⟨fun h h' => ?_, fun h => ?_⟩
    · rw [busWrite_slot1_of_store v hp h h' (m := m1) (by rw [hm]; rfl), hm]; rfl
    · rw [busWrite_slot2_of_store v hp h (m := m2) (by rw [hm]; rfl), hm]; rfl
  case storeShared =>
    refine ⟨fun h h' => ?_, fun h => ?_⟩
    · rw [busWrite_slot1_of_store v hp h h' (m := m) (by rw [hm]; rfl), hm]; rfl
    · rw [busWrite_slot2_of_store v hp h (m := m) (by rw [hm]; rfl), hm]; rfl

/-- Settles O27: each range decodes to its cell or to none, and the access follows from the target. -/
theorem ppuBusMap : Obligations.PpuBusMap := by
  intro a v s
  refine ⟨fun h => ?below, fun h h' => ?nt, fun h h' => ?ntMirror, fun h => ?pal⟩
  case below => simp only [ppuRead, ppuWrite, ppuTarget_below h, and_self]
  case nt =>
    have hi : a.toNat - 0x2000 < Region.nt.size := by simp only [Region.size, Config.ntSize]; omega
    exact ⟨ppuRead_of_target (ppuTarget_nt h h') hi rfl, ppuWrite_of_target v (ppuTarget_nt h h') hi rfl⟩
  case ntMirror =>
    have hi : a.toNat - 0x3000 < Region.nt.size := by simp only [Region.size, Config.ntSize]; omega
    exact ⟨ppuRead_of_target (ppuTarget_ntMirror h h') hi rfl,
      ppuWrite_of_target v (ppuTarget_ntMirror h h') hi rfl⟩
  case pal =>
    have hi : (a.toNat - 0x3F00) % 0x20 < Region.pal.size := Nat.mod_lt _ (by decide)
    exact ⟨ppuRead_of_target (ppuTarget_pal h) hi rfl, ppuWrite_of_target v (ppuTarget_pal h) hi rfl⟩

end Sys2Proof.Machine
end

section
/-! PROOFS. The dispatch table against the encoder (30_encoding.md R100 to R107): each slot encodes its opcode byte and
operand bytes, so decoding consumes exactly an encoding; from these the lengths of O12. -/

namespace Sys2Proof

/-! The operand bytes (R101, R102, R144). -/

@[simp] theorem loByte_wordOf (hi lo : Byte) : loByte (wordOf hi lo) = lo :=
  BitVec.extractLsb'_append_eq_right

@[simp] theorem hiByte_wordOf (hi lo : Byte) : hiByte (wordOf hi lo) = hi :=
  BitVec.extractLsb'_append_eq_left

@[simp] theorem ofInt_sext8 (b : Byte) : BitVec.ofInt 8 (sext8 b) = b := BitVec.ofInt_toInt

/-! The slots of the dispatch table. -/

/-- What an instruction made by the row encodes to, under the opcode byte `op` (R100 to R103). -/
def OpcodeRow.EncodesAt (op : Byte) : OpcodeRow → Prop
  | .bare i => encode i = [op]
  | .byte make => ∀ b, encode (make b) = [op, b]
  | .word make => ∀ w, encode (make w) = [op, loByte w, hiByte w]
  | .offset make => ∀ d, encode (make d) = [op, BitVec.ofInt 8 d]

/-- The mapped slots of a list encode at the opcode bytes counted up from `n`. -/
def SlotsEncodeFrom (n : Nat) : List (Option OpcodeRow) → Prop
  | [] => True
  | none :: slots => SlotsEncodeFrom (n + 1) slots
  | some row :: slots => row.EncodesAt (BitVec.ofNat 8 n) ∧ SlotsEncodeFrom (n + 1) slots

theorem SlotsEncodeFrom.slot {row : OpcodeRow} : ∀ {slots : List (Option OpcodeRow)} {n k : Nat},
    SlotsEncodeFrom n slots → slots[k]? = some (some row) → row.EncodesAt (BitVec.ofNat 8 (n + k))
  | some _ :: _, _, 0, h, hk => by
    cases hk
    exact h.1
  | none :: slots, n, k + 1, h, hk => by
    rw [← Nat.succ_add_eq_add_succ]
    exact slot (slots := slots) (n := n + 1) h hk
  | some _ :: _, n, k + 1, h, hk => by
    rw [← Nat.succ_add_eq_add_succ]
    exact slot h.2 hk

/-- The grid's rows are numbered by the high nibble of the opcode byte (R104); each slot's encodings compute to its
bytes. -/
theorem dispatchTable_encodes {q : Nat} {slots : List (Option OpcodeRow)} (hs : dispatchTable[q]? = some slots) :
    SlotsEncodeFrom (16 * q) slots := by
  have hq : q < 16 := (List.getElem?_eq_some_iff.mp hs).1
  interval_cases q <;> cases hs <;> repeat' constructor
  all_goals exact fun _ => rfl

/-- Decoding reads the table at the opcode byte, so what a slot makes has that opcode byte and the slot's length. -/
theorem dispatch_encodes {op : Byte} {row : OpcodeRow} (h : dispatch op = some row) : row.EncodesAt op := by
  unfold dispatch gridEntry at h
  split at h
  next slot hslot =>
    split at hslot
    next slots hslots =>
      subst h
      have hrow := (dispatchTable_encodes hslots).slot hslot
      rwa [Nat.div_add_mod, BitVec.ofNat_toNat, BitVec.setWidth_eq] at hrow
    next => cases hslot
  next => cases h

/-- What decodes is the encoding of the instruction and the bytes left over (R100 to R103). -/
theorem decode_eq_ok {bytes rest : List Byte} {i : Instr} (h : decode bytes = .ok (i, rest)) :
    bytes = encode i ++ rest := by
  unfold decode at h
  split at h
  next => cases h
  next op bytes =>
    split at h <;> cases h
    next hd => simp [show encode i = [op] from dispatch_encodes hd]
    next make b hd => simp [show encode (make b) = [op, b] from dispatch_encodes hd b]
    next make lo hi hd => simp [show encode (make (wordOf hi lo)) = _ from dispatch_encodes hd (wordOf hi lo)]
    next make b hd => simp [show encode (make (sext8 b)) = _ from dispatch_encodes hd (sext8 b)]

/-- One instruction of the row: the one with a zero operand. -/
def OpcodeRow.sample : OpcodeRow → Instr
  | .bare i => i
  | .byte make => make 0#8
  | .word make => make 0#16
  | .offset make => make 0

/-- The format and the operation of an instruction, without its operand. -/
def Instr.shape (i : Instr) : Format × Operation := (i.operand.format, i.operation)

/-- The slot of an instruction's opcode byte is mapped and gives its format and operation (R104 to R106). -/
theorem dispatch_opcode_shape (i : Instr) :
    (dispatch i.opcode).map (fun row => row.sample.shape) = some i.shape := by
  cases i <;> dsimp only [Instr.opcode] <;> rfl

theorem shape_of_opcode_eq {i j : Instr} (h : i.opcode = j.opcode) : i.shape = j.shape :=
  Option.some.inj (by rw [← dispatch_opcode_shape i, h, dispatch_opcode_shape j])

theorem dispatch_opcode_ne_none (i : Instr) : dispatch i.opcode ≠ none := by
  intro h
  have hshape := dispatch_opcode_shape i
  rw [h] at hshape
  cases hshape

end Sys2Proof

namespace Sys2Proof.Machine

theorem dispatch_unmapped {b : Byte} (hb : b ∈ unmappedBytes) : dispatch b = none := by
  have hall : ∀ b ∈ unmappedBytes, (dispatch b).isNone = true := by decide
  exact Option.isNone_iff_eq_none.mp (hall b hb)

theorem opcode_ne_of_unmapped {b : Byte} (hb : b ∈ unmappedBytes) (i : Instr) : i.opcode ≠ b := by
  rintro rfl
  exact dispatch_opcode_ne_none i (dispatch_unmapped hb)

theorem operand_bytes_length (o : Operand) : o.bytes.length + 1 = formatLength o.format := by
  cases o with
  | mem m => cases m <;> rfl
  | _ => rfl

theorem encode_length (i : Instr) : (encode i).length = formatLength i.operand.format :=
  operand_bytes_length i.operand

/-- Settles O12: the length goes by the format, the format by the opcode byte's slot, and what decodes is an
encoding. -/
theorem lengthIsFixedByTheOpcode : Obligations.LengthIsFixedByTheOpcode := by
  refine ⟨encode_length, fun i j h => Prod.mk.inj (shape_of_opcode_eq h), fun i bytes rest h => ?consumed,
    fun b hb i => opcode_ne_of_unmapped hb i, fun i h => ?zero⟩
  case consumed =>
    obtain rfl := decode_eq_ok h
    exact ⟨rfl, by rw [List.length_append, encode_length]⟩
  case zero =>
    have hformat : i.operand.format = .imp := congrArg Prod.fst (shape_of_opcode_eq (j := .hlt) h)
    rw [encode_length, hformat]
    rfl

end Sys2Proof.Machine
end

section
/-! PROOFS. The opcode table, slot by slot (30_encoding.md R104 to R106): a claim about an instruction's opcode byte,
format and operation is settled on the mapped slots. From it the opcode rows of an operation, and the costs of O59. -/

namespace Sys2Proof.Machine

/-- A claim about opcode byte, format and operation that holds in every mapped slot holds of every instruction. -/
theorem of_mapped_slots {P : Byte → Format → Operation → Prop}
    (h : ∀ b, ∀ row ∈ dispatch b, P b row.sample.operand.format row.sample.operation) (i : Instr) :
    P i.opcode i.operand.format i.operation := by
  obtain ⟨row, hrow, hshape⟩ := Option.map_eq_some_iff.mp (dispatch_opcode_shape i)
  obtain ⟨hformat, hoperation⟩ := Prod.mk.inj hshape
  rw [← hformat, ← hoperation]
  exact h i.opcode row hrow

/-- An operation's opcode rows are the mapped slots that give it. -/
theorem encodes_of_slots {op : Operation} {rows : List (Byte × Format)}
    (h : ∀ b, ∀ row ∈ dispatch b, row.sample.operation = op ↔ (b, row.sample.operand.format) ∈ rows) :
    Encodes op rows :=
  of_mapped_slots (P := fun b f o => o = op ↔ (b, f) ∈ rows) h

/-- Only the halt sentinel has its operation (R108). -/
theorem eq_hlt_of_operation {i : Instr} (h : i.operation = .hlt) : i = .hlt := by
  cases i
  case hlt => rfl
  all_goals cases h

/-- R416: the table of costs agrees with the words below it in every mapped slot but the halt sentinel's. -/
theorem baseCycles_opcode {i : Instr} (h : i ≠ .hlt) :
    baseCycles i.opcode = some (cyclesByFormat i.operation i.operand.format) :=
  of_mapped_slots (P := fun b f o => o ≠ .hlt → baseCycles b = some (cyclesByFormat o f)) (by decide) i
    (mt eq_hlt_of_operation h)

/-- R153: the base cost, and one more for a taken branch. -/
theorem cost_of_baseCycles {i : Instr} {n : Nat} (s : State) (h : baseCycles i.opcode = some n) :
    cost i s = some (n + if branchTaken i.operation s.p then 1 else 0) := by
  simp only [cost, h, Config.branchTakenExtra]
  split <;> rfl

/-- Settles O59: each slot of the cost table against its operation and format. -/
theorem costOfEachInstruction : Obligations.CostOfEachInstruction := by
  refine ⟨fun i s hi => ?_, fun s => rfl, by decide⟩
  have hbase := baseCycles_opcode hi
  exact ⟨hbase, cost_of_baseCycles s hbase⟩

end Sys2Proof.Machine
end

section
/-! PROOFS. The stack (40_cpu_common.md R147 to R151): always in work RAM, its pointer wrapping within page 1; what a
push and a pull do in every state, and the packed status byte. From these O51 and O55. -/

namespace Sys2Proof.Machine

/-! Page 1 on the bus (10_state.md R22, R27). -/

theorem stackAddr_toNat (sp : Byte) : (stackAddr sp).toNat = stackIndex sp := by
  rw [stackAddr, wordOf, BitVec.toNat_append]
  exact (Nat.shiftLeft_add_eq_or_of_lt sp.isLt 1).symm

theorem stackIndex_lt (sp : Byte) : stackIndex sp < 0x200 := Nat.add_lt_add_left sp.isLt 0x100

theorem stackIndex_lt_size (sp : Byte) : stackIndex sp < Region.wram.size :=
  (stackIndex_lt sp).trans (by decide)

theorem cpuTarget_stackAddr (sp : Byte) : cpuTarget (stackAddr sp) = .cell .wram (stackIndex sp) := by
  have hlow : (stackAddr sp).toNat < 0x2000 := stackAddr_toNat sp ▸ (stackIndex_lt sp).trans (by decide)
  have hmod : stackIndex sp % 0x800 = stackIndex sp := Nat.mod_eq_of_lt (stackIndex_lt_size sp)
  rw [cpuTarget_wram hlow, stackAddr_toNat, hmod]

theorem stackIndex_ne {a b : Byte} (h : a ≠ b) : stackIndex a ≠ stackIndex b := fun e =>
  h (BitVec.eq_of_toNat_eq (Nat.add_left_cancel e))

/-! The two bytes of a word (00_scope.md R1). -/

theorem hiByte_eq_div (w : Word) : hiByte w = BitVec.ofNat 8 (w.toNat / 256) := by
  rw [hiByte, BitVec.extractLsb', Nat.shiftRight_eq_div_pow]

theorem loByte_eq_mod (w : Word) : loByte w = BitVec.ofNat 8 (w.toNat % 256) :=
  BitVec.eq_of_toNat_eq (by simp [loByte])

theorem hiByte_append_loByte (w : Word) : hiByte w ++ loByte w = w :=
  (BitVec.extractLsb'_append_extractLsb'_eq_extractLsb' (start₁ := 0) (len₁ := 8) rfl).trans
    BitVec.extractLsb'_eq_self

/-! Pushes and pulls (R147 to R149). -/

theorem push_eq (v : Byte) (s : State) :
    push v s = .ok () { s with wram := s.wram.write (stackIndex s.sp) v, sp := s.sp - 1#8 } := by
  rw [push, busWrite_of_cell v (cpuTarget_stackAddr s.sp) nofun nofun (stackIndex_lt_size s.sp) rfl]
  rfl

theorem pull_eq (s : State) : pull s = .ok (stackByte s (s.sp + 1#8)) { s with sp := s.sp + 1#8 } :=
  busRead_of_cell (cpuTarget_stackAddr (s.sp + 1#8)) (stackIndex_lt_size _) rfl

theorem push16_eq (w : Word) (s : State) :
    push16 w s = .ok () { s with
      wram := (s.wram.write (stackIndex s.sp) (hiByte w)).write (stackIndex (s.sp - 1#8)) (loByte w)
      sp := s.sp - 2#8 } := by
  simp only [push16, push_eq, Access.andThen_ok, BitVec.sub_sub]
  rfl

theorem pull16_eq (s : State) :
    pull16 s = .ok (stackByte s (s.sp + 2#8) ++ stackByte s (s.sp + 1#8)) { s with sp := s.sp + 2#8 } := by
  simp only [pull16, pull_eq, Access.andThen_ok, BitVec.add_assoc]
  rfl

/-! The packed status byte (R150, R151). -/

theorem pack_eq_packedSum (p : Flags) : p.pack = BitVec.ofNat 8 (packedSum p) := by
  obtain ⟨n, v, b, d, i, z, c⟩ := p
  revert n v b d i z c
  decide

theorem unpackP_eq (b : Byte) (s : State) : unpackP b s = { s with p := unpacked s.cfg.pullB b s.p } := by
  rw [unpackP]
  cases s.cfg.pullB <;> rfl

/-- Unpacking under `load` takes all but bit 5 from the byte and nothing from the old flags. -/
theorem pack_unpacked_load (b : Byte) (p : Flags) : (unpacked .load b p).pack = b ||| 0x20#8 := by
  have hreset : ∀ b, (unpacked .load b Flags.reset).pack = b ||| 0x20#8 := by decide
  exact hreset b

/-- What `PHP` pushes, `PLP` unpacks to the flags it was made of, but for `B` under `load`. -/
theorem unpacked_pack_or_break (policy : PullBPolicy) (p : Flags) :
    unpacked policy (p.pack ||| 0x10#8) p = { p with b := if policy = .load then true else p.b } := by
  obtain ⟨n, v, b, d, i, z, c⟩ := p
  revert n v b d i z c
  cases policy <;> decide

/-! The instructions over the stack (R237 to R240, R261, R262). -/

theorem exec_pha (s : State) :
    exec .pha s = .next { s with wram := s.wram.write (stackIndex s.sp) s.a, sp := s.sp - 1#8 } := by
  simp only [exec, execPha, opPha, push_eq, Access.conclude_ok]

theorem exec_php (s : State) :
    exec .php s = .next { s with
      wram := s.wram.write (stackIndex s.sp) (s.p.pack ||| 0x10#8), sp := s.sp - 1#8 } := by
  simp only [exec, execPhp, opPhp, push_eq, Access.conclude_ok]

theorem exec_pla (s : State) :
    exec .pla s = .next { s with
      a := stackByte s (s.sp + 1#8), sp := s.sp + 1#8, p := znOf (stackByte s (s.sp + 1#8)) s.p } := by
  simp only [exec, execPla, opPla, pull_eq, Access.conclude_ok]
  rfl

theorem exec_plp (s : State) :
    exec .plp s = .next { s with
      sp := s.sp + 1#8, p := unpacked s.cfg.pullB (stackByte s (s.sp + 1#8)) s.p } := by
  simp only [exec, execPlp, opPlp, pull_eq, Access.conclude_ok, unpackP_eq]

theorem exec_jsr (w : Word) (s : State) :
    exec (.jsr w) s = .next { s with
      wram := (s.wram.write (stackIndex s.sp) (hiByte (s.pc - 1#16))).write (stackIndex (s.sp - 1#8))
        (loByte (s.pc - 1#16))
      sp := s.sp - 2#8
      pc := w } := by
  simp only [exec, execJsr, opJsr, push16_eq, Access.conclude_ok]
  rfl

theorem exec_rts (s : State) :
    exec .rts s = .next { s with
      sp := s.sp + 2#8, pc := (stackByte s (s.sp + 2#8) ++ stackByte s (s.sp + 1#8)) + 1#16 } := by
  simp only [exec, execRts, opRts, pull16_eq, Access.conclude_ok]
  rfl

/-! The round trips: a pull gives the byte that the push left at its place. -/

/-- `PLP` finds the byte that `PHP` pushed (R239, R240). -/
theorem plp_of_php {s : State} (hs : s.wf = true) : ∃ t, exec .php s = .next t ∧
    exec .plp t = .next { t with
      sp := s.sp, p := { s.p with b := if s.cfg.pullB = .load then true else s.p.b } } := by
  obtain ⟨hwram, _⟩ := s.wf_iff.mp hs
  refine ⟨_, exec_php s, ?_⟩
  simp only [exec_plp, BitVec.sub_add_cancel, stackByte, Memory.read_write_same _ _ hwram,
    unpacked_pack_or_break]

/-- `RTS` finds the two bytes that `JSR` pushed, at two places of page 1 (R261, R262). -/
theorem rts_of_jsr (w : Word) {s : State} (hs : s.wf = true) : ∃ t, exec (.jsr w) s = .next t ∧
    exec .rts t = .next { t with sp := s.sp, pc := s.pc } := by
  obtain ⟨hwram, _⟩ := s.wf_iff.mp hs
  have hwram' := Memory.wf_write (hiByte (s.pc - 1#16)) hwram (stackIndex_lt_size s.sp)
  have hlow : s.sp - 2#8 + 1#8 = s.sp - 1#8 := by bv_omega
  have hne : stackIndex s.sp ≠ stackIndex (s.sp - 1#8) := stackIndex_ne (by bv_omega)
  refine ⟨_, exec_jsr w s, ?_⟩
  simp only [exec_rts, BitVec.sub_add_cancel, stackByte, hlow, Memory.read_write_same _ _ hwram',
    Memory.read_write_other _ hwram' hne, Memory.read_write_same _ _ hwram, hiByte_append_loByte]

/-! The obligations. -/

/-- Settles O51: the rules of the stack and of its instructions, and the round trip through work RAM. -/
theorem stackInstructions : Obligations.StackInstructions := by
  refine ⟨encodes_of_slots (by decide), encodes_of_slots (by decide), encodes_of_slots (by decide),
    encodes_of_slots (by decide), fun v s => ?rules, fun s => ?instructions, fun s hs => plp_of_php hs⟩
  case rules =>
    refine ⟨push_eq v s, pull_eq s, pack_eq_packedSum s.p, unpackP_eq v s, fun hload => ?_⟩
    rw [unpackP_eq, hload]
    exact pack_unpacked_load v s.p
  case instructions =>
    exact ⟨exec_pha s, pack_eq_packedSum s.p ▸ exec_php s, exec_pla s, exec_plp s⟩

/-- Settles O55: the rules of the two-byte accesses, and the round trip through work RAM. -/
theorem subroutineCallAndReturn : Obligations.SubroutineCallAndReturn := by
  refine ⟨encodes_of_slots (by decide), encodes_of_slots (by decide), fun w s => ?rules,
    fun w s hs => rts_of_jsr w hs⟩
  case rules =>
    refine ⟨?push, pull16_eq s, ?jsr, exec_rts s⟩
    case push => rw [push16_eq, hiByte_eq_div, loByte_eq_mod]
    case jsr => rw [exec_jsr, hiByte_eq_div, loByte_eq_mod]

end Sys2Proof.Machine
end

section
/-! PROOFS. The converse of `exec_effect` (Laws/Exec.lean) for the instructions that read an operand, that store a byte
and that make no access: what decides the effect decides what `exec` answers. From it the loads, the stores and the
transfers (41_load_store_transfer.md), O41 to O43. -/

namespace Sys2Proof.Machine

theorem Access.conclude_of_ok {α : Type} {r : Access α} {k : α → State → Result} {v : α} {u : State}
    (h : r = .ok v u) : r.conclude k = k v u := by
  rw [h, Access.conclude_ok]

theorem Access.conclude_of_fault {α : Type} {r : Access α} {k : α → State → Result} {e : Fault}
    (h : r = .fault e) : r.conclude k = .fault e := by
  rw [h, Access.conclude_fault]

/-! Instructions that read an operand. -/

/-- The rows whose operation `ReadsTo` knows are each one load of the operand, concluded by the operation's effect. -/
theorem exec_of_readsTo {i : Instr} {src : Src} {v : Byte} {s u t : State} (ho : i.operand = src.operand)
    (hl : load src s = .ok v u) (ht : ReadsTo i.operation v u t) : exec i s = .next t := by
  cases i <;> cases ht
  all_goals
    cases src <;> cases ho
    exact Access.conclude_of_ok hl

/-- In such a row a fault of the load is the instruction's; `ht` only says that the operation is a reading one. -/
theorem exec_of_load_fault {i : Instr} {src : Src} {e : Fault} {v : Byte} {s u t : State}
    (ho : i.operand = src.operand) (hl : load src s = .fault e) (ht : ReadsTo i.operation v u t) :
    exec i s = .fault e := by
  cases i <;> cases ht
  all_goals
    cases src <;> cases ho
    exact Access.conclude_of_fault hl

theorem readsOperand_of_readsTo {i : Instr} {f : Byte → State → State}
    (h : ∀ v u, ReadsTo i.operation v u (f v u)) : ReadsOperand i f := fun _ s ho =>
  ⟨fun v u hl => exec_of_readsTo ho hl (h v u), fun _ hl => exec_of_load_fault ho hl (h 0#8 s)⟩

/-! Instructions that store a byte. -/

/-- The rows whose operation `StoresOf` knows are each one store to the operand and nothing after it. -/
theorem exec_of_storesOf {i : Instr} {m : MemMode} {v : Byte} {s : State} (ho : i.operand = .mem m)
    (hv : StoresOf i.operation s v) : exec i s = (store m v s).conclude fun _ t => .next t := by
  cases i <;> cases hv
  all_goals
    cases ho
    rfl

theorem store_of_resolve {m : MemMode} {addr : Word} {s s1 : State} (v : Byte) (h : resolve m s = .ok addr s1) :
    store m v s = busWrite addr v s1 := by
  rw [store, h, Access.andThen_ok]

theorem storesByte_of_storesOf {i : Instr} {value : State → Byte} (h : ∀ s, StoresOf i.operation s (value s)) :
    StoresByte i value := by
  intro m s addr s1 ho hr
  have hexec : exec i s = (busWrite addr (value s) s1).conclude fun _ t => .next t := by
    rw [exec_of_storesOf ho (h s), store_of_resolve _ hr]
  exact ⟨fun t hw => hexec.trans (Access.conclude_of_ok hw), fun e hw => hexec.trans (Access.conclude_of_fault hw)⟩

/-! Instructions that make no access. -/

theorem exec_of_plain {i : Instr} {s t : State} (h : Plain s i.operation t) : exec i s = .next t := by
  cases i <;> cases h
  all_goals rfl

/-! The obligations. -/

/-- Settles O41: each load reads its operand and does what `ReadsTo` says of it. -/
theorem loadInstructions : Obligations.LoadInstructions := by
  refine ⟨encodes_of_slots (by decide), encodes_of_slots (by decide), encodes_of_slots (by decide),
    encodes_of_slots (by decide), fun i => ⟨fun hi => ?lda, fun hi => ?ldx, fun hi => ?ldy, fun hi => ?lax⟩⟩
  case lda => exact readsOperand_of_readsTo fun v t => hi ▸ .lda v t
  case ldx => exact readsOperand_of_readsTo fun v t => hi ▸ .ldx v t
  case ldy => exact readsOperand_of_readsTo fun v t => hi ▸ .ldy v t
  case lax => exact readsOperand_of_readsTo fun v t => hi ▸ .lax v t

/-- Settles O42: each store writes the byte that `StoresOf` gives, once its address is resolved. -/
theorem storeInstructions : Obligations.StoreInstructions := by
  refine ⟨encodes_of_slots (by decide), encodes_of_slots (by decide), encodes_of_slots (by decide),
    encodes_of_slots (by decide), fun i => ⟨fun hi => ?sta, fun hi => ?stx, fun hi => ?sty, fun hi => ?aax⟩⟩
  case sta => exact storesByte_of_storesOf fun s => hi ▸ .sta s
  case stx => exact storesByte_of_storesOf fun s => hi ▸ .stx s
  case sty => exact storesByte_of_storesOf fun s => hi ▸ .sty s
  case aax => exact storesByte_of_storesOf fun s => hi ▸ .aax s

/-- Settles O43: the transfers make no access, so each gives what `Plain` says of it. -/
theorem transferInstructions : Obligations.TransferInstructions := by
  refine ⟨encodes_of_slots (by decide), encodes_of_slots (by decide), encodes_of_slots (by decide),
    encodes_of_slots (by decide), encodes_of_slots (by decide), encodes_of_slots (by decide), fun s => ?_⟩
  exact ⟨exec_of_plain .tax, exec_of_plain .txa, exec_of_plain .tay, exec_of_plain .tya, exec_of_plain .tsx,
    exec_of_plain .txs⟩

end Sys2Proof.Machine
end

section
/-! PROOFS. Arithmetic and logic (42_arith_logic.md). The model's flag computations are the spec's formulas in integers;
what `ModifiesBy` and `ModifiesTo` (Laws/Exec.lean) say of a read-modify-write decides what `exec` answers, access by
access (40_cpu_common.md R154). From these O44 to O48. -/

namespace Sys2Proof.Machine

/-! Bytes modulo 256 (R206, R207). -/

theorem ofNat_mod_256 (n : Nat) : BitVec.ofNat 8 (n % 256) = BitVec.ofNat 8 n :=
  BitVec.eq_of_toNat_eq (by simp only [BitVec.toNat_ofNat, Nat.reducePow, Nat.mod_mod])

theorem ofNat_toNat_add_mod_256 (v : Byte) (k : Nat) :
    BitVec.ofNat 8 ((v.toNat + k) % 256) = v + BitVec.ofNat 8 k := by
  rw [ofNat_mod_256, BitVec.ofNat_add, BitVec.ofNat_toNat, BitVec.setWidth_eq]

theorem ofNat_toNat_add_one (v : Byte) : BitVec.ofNat 8 ((v.toNat + 1) % 256) = v + 1 :=
  ofNat_toNat_add_mod_256 v 1

theorem ofNat_toNat_add_255 (v : Byte) : BitVec.ofNat 8 ((v.toNat + 255) % 256) = v - 1 := by
  rw [ofNat_toNat_add_mod_256, BitVec.sub_eq_add_neg]
  rfl

theorem ofInt_toNat_sub_toNat (r m : Byte) : BitVec.ofInt 8 ((r.toNat : Int) - m.toNat) = r - m := by
  simp only [Int.sub_eq_add_neg, BitVec.ofInt_add, BitVec.ofInt_neg, BitVec.ofInt_natCast, BitVec.ofNat_toNat,
    BitVec.setWidth_eq, BitVec.sub_eq_add_neg]

theorem toNat_xor_FF (m : Byte) : (m ^^^ 0xFF#8).toNat = 255 - m.toNat :=
  (congrArg BitVec.toNat BitVec.xor_allOnes).trans BitVec.toNat_not

theorem getLsbD_seven_xor_FF (m : Byte) : (m ^^^ 0xFF#8).getLsbD 7 = !m.getLsbD 7 :=
  BitVec.getLsbD_xor.trans (Bool.xor_true _)

/-! Add, subtract and compare (R190, R191, R206, R207). -/

/-- The two formulas of R206 for the signed overflow: by the masks, and by the signs. -/
theorem overflow_iff_signs (a m r : Byte) : (a ^^^ r) &&& (m ^^^ r) &&& 0x80#8 ≠ 0#8 ↔
    a.getLsbD 7 = m.getLsbD 7 ∧ r.getLsbD 7 ≠ a.getLsbD 7 := by
  have hbit (x : Byte) : x &&& 0x80#8 ≠ 0#8 ↔ x.getLsbD 7 = true := by
    rw [show 0x80#8 = BitVec.twoPow 8 7 from rfl, BitVec.and_twoPow]
    cases x.getLsbD 7 <;> decide
  rw [hbit, BitVec.getLsbD_and, BitVec.getLsbD_xor, BitVec.getLsbD_xor]
  cases a.getLsbD 7 <;> cases m.getLsbD 7 <;> cases r.getLsbD 7 <;> decide

theorem addWithCarry_eq_addedTo (m : Byte) (s : State) : addWithCarry m s = addedTo m s.p.c s := by
  simp only [addWithCarry, addedTo, ofNat_mod_256, overflow_iff_signs]
  rfl

/-- R191: the complement turns the difference into the sum 256 higher, so that no borrow is a carry, and turns the
subtrahend's sign over. -/
theorem subtractedFrom_eq_addedTo (m : Byte) (c : Bool) (t : State) :
    subtractedFrom m c t = addedTo (m ^^^ 0xFF#8) c t := by
  have hm := m.isLt
  have hsum : (t.a.toNat : Int) - m.toNat - (1 - c.toNat) =
      ((t.a.toNat + (m ^^^ 0xFF#8).toNat + c.toNat : Nat) : Int) - 256 := by
    rw [toNat_xor_FF]
    omega
  have hbyte (n : Nat) : BitVec.ofInt 8 ((n : Int) - 256) = BitVec.ofNat 8 n := by
    rw [Int.sub_eq_add_neg, BitVec.ofInt_add, BitVec.ofInt_natCast]
    exact BitVec.add_zero _
  have hcarry (n : Nat) : 0 ≤ (n : Int) - 256 ↔ 255 < n := by omega
  simp only [subtractedFrom, addedTo, hsum, hbyte, hcarry, ofNat_mod_256, overflow_iff_signs, getLsbD_seven_xor_FF,
    ne_eq, Bool.eq_not]

theorem compareWith_eq_comparedWith (r m : Byte) (s : State) : compareWith r m s = comparedWith r m s := by
  rw [comparedWith, ofInt_toNat_sub_toNat]
  rfl

/-! Instructions that modify a byte of memory (R154). -/

/-- Once the byte is read, what is left of a `Modify` is its write. -/
theorem modify_of_read {m : MemMode} {f : Byte → Byte × Bool} {addr : Word} {old : Byte} {s s1 s2 : State}
    (hr : resolve m s = .ok addr s1) (hb : busRead addr s1 = .ok old s2) :
    modify (.mem m) f s = (busWrite addr (f old).1 s2).andThen fun _ s3 => .ok (f old) s3 := by
  rw [modify, hr, Access.andThen_ok, hb, Access.andThen_ok]

theorem modify_of_read_fault {m : MemMode} {f : Byte → Byte × Bool} {addr : Word} {e : Fault} {s s1 : State}
    (hr : resolve m s = .ok addr s1) (hb : busRead addr s1 = .fault e) : modify (.mem m) f s = .fault e := by
  rw [modify, hr, Access.andThen_ok, hb, Access.andThen_fault]

/-- The rows whose operation `ModifiesBy` knows are each one `Modify` of the operand, concluded by the operation's
effect. -/
theorem exec_of_modifiesTo {i : Instr} {m : MemMode} {f : Byte → Byte × Bool} {r : Byte × Bool} {s u t : State}
    (ho : i.operand = .mem m) (hf : ModifiesBy i.operation s.p.c f) (hm : modify (.mem m) f s = .ok r u)
    (ht : ModifiesTo i.operation r u t) : exec i s = .next t := by
  cases i <;> cases hf <;> cases ho
  all_goals
    cases ht
    exact Access.conclude_of_ok hm

theorem exec_of_modify_fault {i : Instr} {m : MemMode} {f : Byte → Byte × Bool} {e : Fault} {s : State}
    (ho : i.operand = .mem m) (hf : ModifiesBy i.operation s.p.c f) (hm : modify (.mem m) f s = .fault e) :
    exec i s = .fault e := by
  cases i <;> cases hf <;> cases ho
  all_goals exact Access.conclude_of_fault hm

theorem modifiesMemory_of_modifiesTo {i : Instr} {f : Bool → Byte → Byte} {out : Bool → Byte → Bool}
    {g : Bool → Byte → State → State} (hf : ∀ c, ModifiesBy i.operation c fun old => (f c old, out c old))
    (ht : ∀ c old u, ModifiesTo i.operation (f c old, out c old) u (g c old u)) : ModifiesMemory i f g := by
  intro m s addr s1 ho hr
  refine ⟨fun e hb => ?readFault, fun old s2 hb => ⟨fun t hw => ?written, fun e hw => ?writeFault⟩⟩
  case readFault => exact exec_of_modify_fault ho (hf s.p.c) (modify_of_read_fault hr hb)
  case written =>
    refine exec_of_modifiesTo ho (hf s.p.c) ?_ (ht s.p.c old t)
    rw [modify_of_read hr hb, hw, Access.andThen_ok]
  case writeFault =>
    refine exec_of_modify_fault ho (hf s.p.c) ?_
    rw [modify_of_read hr hb, hw, Access.andThen_fault]

/-! The obligations. -/

/-- Settles O44: both are the addition of R206, `SBC` of the complement. -/
theorem addAndSubtract : Obligations.AddAndSubtract := by
  refine ⟨encodes_of_slots (by decide), encodes_of_slots (by decide), fun i => ⟨fun hi => ?adc, fun hi => ?sbc,
    fun m t => subtractedFrom_eq_addedTo m t.p.c t⟩⟩
  case adc => exact readsOperand_of_readsTo fun v t => hi ▸ addWithCarry_eq_addedTo v t ▸ .adc v t
  case sbc =>
    refine readsOperand_of_readsTo fun v t => ?_
    rw [hi, subtractedFrom_eq_addedTo, ← addWithCarry_eq_addedTo]
    exact .sbc v t

/-- Settles O45: each reads its operand and does what `ReadsTo` says of it. -/
theorem bitwiseInstructions : Obligations.BitwiseInstructions := by
  refine ⟨encodes_of_slots (by decide), encodes_of_slots (by decide), encodes_of_slots (by decide),
    encodes_of_slots (by decide), fun i => ⟨fun hi => ?and, fun hi => ?ora, fun hi => ?eor, fun hi => ?bit⟩⟩
  case and => exact readsOperand_of_readsTo fun v t => hi ▸ .and v t
  case ora => exact readsOperand_of_readsTo fun v t => hi ▸ .ora v t
  case eor => exact readsOperand_of_readsTo fun v t => hi ▸ .eor v t
  case bit => exact readsOperand_of_readsTo fun v t => hi ▸ .bit v t

/-- Settles O46: each is the comparison of R207 with its register. -/
theorem compareInstructions : Obligations.CompareInstructions := by
  refine ⟨encodes_of_slots (by decide), encodes_of_slots (by decide), encodes_of_slots (by decide),
    fun i => ⟨fun hi => ?cmp, fun hi => ?cpx, fun hi => ?cpy⟩⟩
  case cmp => exact readsOperand_of_readsTo fun v t => hi ▸ compareWith_eq_comparedWith t.a v t ▸ .cmp v t
  case cpx => exact readsOperand_of_readsTo fun v t => hi ▸ compareWith_eq_comparedWith t.x v t ▸ .cpx v t
  case cpy => exact readsOperand_of_readsTo fun v t => hi ▸ compareWith_eq_comparedWith t.y v t ▸ .cpy v t

/-- Settles O47: each modifies its byte by `ModifiesBy` and then sets `Z` and `N` as `ModifiesTo` says. -/
theorem memoryIncrementAndDecrement : Obligations.MemoryIncrementAndDecrement := by
  refine ⟨encodes_of_slots (by decide), encodes_of_slots (by decide), fun i => ⟨fun hi => ?inc, fun hi => ?dec⟩⟩
  case inc =>
    simp only [ofNat_toNat_add_one]
    exact modifiesMemory_of_modifiesTo (out := fun _ _ => false) (fun c => hi ▸ .inc c) fun _ old u => hi ▸ .inc _ u
  case dec =>
    simp only [ofNat_toNat_add_255]
    exact modifiesMemory_of_modifiesTo (out := fun _ _ => false) (fun c => hi ▸ .dec c) fun _ old u => hi ▸ .dec _ u

/-- Settles O48: these make no access, so each gives what `Plain` says of it, its byte in numbers. -/
theorem registerIncrementAndDecrement : Obligations.RegisterIncrementAndDecrement := by
  refine ⟨encodes_of_slots (by decide), encodes_of_slots (by decide), encodes_of_slots (by decide),
    encodes_of_slots (by decide), fun s => ?_⟩
  simp only [ofNat_toNat_add_one, ofNat_toNat_add_255, forall_eq]
  exact ⟨exec_of_plain .inx, exec_of_plain .iny, exec_of_plain .dex, exec_of_plain .dey⟩

end Sys2Proof.Machine
end

section
/-! PROOFS. Shift and rotate (43_shift_rotate.md). The model's shift functions are those of R224 in numbers, so an
operation modifies its byte by `shifted`; a `Modify` of `A` (R133) makes no access. From these O49. -/

namespace Sys2Proof.Machine

/-! The shift functions in numbers (R224). -/

theorem getLsbD_seven_eq_decide (v : Byte) : v.getLsbD 7 = decide (128 ≤ v.toNat) := by
  rw [← BitVec.msb_eq_getLsbD_last v, BitVec.msb_eq_decide]

theorem getLsbD_zero_eq_decide (v : Byte) : v.getLsbD 0 = decide (v.toNat % 2 = 1) :=
  Nat.testBit_zero v.toNat

theorem shiftLeft_one_eq_ofNat (v : Byte) : v <<< 1 = BitVec.ofNat 8 (2 * v.toNat % 256) := by
  bv_omega

theorem shiftRight_one_eq_ofNat (v : Byte) : v >>> 1 = BitVec.ofNat 8 (v.toNat / 2) := by
  bv_omega

theorem toNat_append_eq_add {m n : Nat} (x : BitVec m) (y : BitVec n) :
    (x ++ y).toNat = x.toNat * 2 ^ n + y.toNat := by
  rw [BitVec.toNat_append, ← Nat.shiftLeft_add_eq_or_of_lt y.isLt, Nat.shiftLeft_eq]

/-- The carry in at bit 0, below the low seven bits. -/
theorem extract_append_carry_eq_ofNat (c : Bool) (v : Byte) :
    v.extractLsb' 0 7 ++ BitVec.ofBool c = BitVec.ofNat 8 (2 * v.toNat % 256 + c.toNat) := by
  have hc := c.toNat_le
  apply BitVec.eq_of_toNat_eq
  rw [toNat_append_eq_add, BitVec.extractLsb'_toNat, BitVec.toNat_ofBool, BitVec.toNat_ofNat, Nat.shiftRight_zero]
  omega

/-- The carry in at bit 7, above the high seven bits. -/
theorem carry_append_extract_eq_ofNat (c : Bool) (v : Byte) :
    BitVec.ofBool c ++ v.extractLsb' 1 7 = BitVec.ofNat 8 (v.toNat / 2 + 128 * c.toNat) := by
  have hc := c.toNat_le
  apply BitVec.eq_of_toNat_eq
  rw [toNat_append_eq_add, BitVec.extractLsb'_toNat, BitVec.toNat_ofBool, BitVec.toNat_ofNat,
    Nat.shiftRight_eq_div_pow]
  omega

theorem asl_eq_shifted (c : Bool) : asl = shifted .asl c := by
  funext v
  rw [asl, shifted, shiftLeft_one_eq_ofNat, getLsbD_seven_eq_decide]

theorem lsr_eq_shifted (c : Bool) : lsr = shifted .lsr c := by
  funext v
  rw [lsr, shifted, shiftRight_one_eq_ofNat, getLsbD_zero_eq_decide]

theorem rol_eq_shifted (c : Bool) : rol c = shifted .rol c := by
  funext v
  rw [rol, shifted, extract_append_carry_eq_ofNat, getLsbD_seven_eq_decide]

theorem ror_eq_shifted (c : Bool) : ror c = shifted .ror c := by
  funext v
  rw [ror, shifted, carry_append_extract_eq_ofNat, getLsbD_zero_eq_decide]

/-! The four operations (R220 to R223). -/

theorem modifiesBy_shifted {op : Operation} (h : op ∈ [.asl, .lsr, .rol, .ror]) (c : Bool) :
    ModifiesBy op c (shifted op c) := by
  simp only [List.mem_cons, List.not_mem_nil, or_false] at h
  obtain rfl | rfl | rfl | rfl := h
  · exact asl_eq_shifted c ▸ .asl c
  · exact lsr_eq_shifted c ▸ .lsr c
  · exact rol_eq_shifted c ▸ .rol c
  · exact ror_eq_shifted c ▸ .ror c

theorem modifiesTo_carry_zn {op : Operation} (h : op ∈ [.asl, .lsr, .rol, .ror]) (r : Byte × Bool) (u : State) :
    ModifiesTo op r u { u with p := { znOf r.1 u.p with c := r.2 } } := by
  simp only [List.mem_cons, List.not_mem_nil, or_false] at h
  obtain rfl | rfl | rfl | rfl := h
  · exact .asl r u
  · exact .lsr r u
  · exact .rol r u
  · exact .ror r u

/-- The rows on `A` make no access, so what decides the effect decides the answer. -/
theorem exec_of_modifiesTo_acc {i : Instr} {f : Byte → Byte × Bool} {s t : State} (ho : i.operand = .acc)
    (hf : ModifiesBy i.operation s.p.c f) (ht : ModifiesTo i.operation (f s.a) (s.setA (f s.a).1) t) :
    exec i s = .next t := by
  cases i <;> cases hf <;> cases ho
  all_goals
    cases ht
    rfl

/-! The obligation. -/

/-- Settles O49: each modifies its byte by `shifted`, then `C` takes the carry out and `Z` and `N` follow the byte. -/
theorem shiftsAndRotates : Obligations.ShiftsAndRotates := by
  refine ⟨encodes_of_slots (by decide), encodes_of_slots (by decide), encodes_of_slots (by decide),
    encodes_of_slots (by decide), fun i hi => ⟨fun ho s r c hrc => ?acc, ?memory⟩⟩
  case acc =>
    have hexec := exec_of_modifiesTo_acc (s := s) ho (modifiesBy_shifted hi s.p.c) (modifiesTo_carry_zn hi _ _)
    rwa [← hrc] at hexec
  case memory =>
    exact modifiesMemory_of_modifiesTo (modifiesBy_shifted hi) fun c old => modifiesTo_carry_zn hi _

end Sys2Proof.Machine
end

section
/-! PROOFS. Flag operations and no-operations (44_flag_stack.md R230 to R236, R241, 46_undocumented.md R288 to R290):
none makes an access, so each gives what `Plain` says of it. From these O50 and O52. -/

namespace Sys2Proof.Machine

/-- Of the instructions that make no access, the no-operations change nothing. -/
theorem plain_self_of_noOperation {op : Operation} (h : op ∈ [.nop, .skb, .skw]) (s : State) : Plain s op s := by
  simp only [List.mem_cons, List.not_mem_nil, or_false] at h
  obtain rfl | rfl | rfl := h
  · exact .nop
  · exact .skb
  · exact .skw

/-! The obligations. -/

/-- Settles O52: every form gives the effect `Plain` has for its operation, which is the state itself. -/
theorem noOperations : Obligations.NoOperations := by
  refine ⟨encodes_of_slots (by decide), encodes_of_slots (by decide), encodes_of_slots (by decide), fun i s hi => ?_⟩
  exact exec_of_plain (plain_self_of_noOperation hi s)

/-- Settles O50: each gives the effect `Plain` has for it, one flag written. -/
theorem flagInstructions : Obligations.FlagInstructions := by
  refine ⟨encodes_of_slots (by decide), encodes_of_slots (by decide), encodes_of_slots (by decide),
    encodes_of_slots (by decide), encodes_of_slots (by decide), encodes_of_slots (by decide),
    encodes_of_slots (by decide), fun s => ?_⟩
  exact ⟨exec_of_plain .clc, exec_of_plain .sec, exec_of_plain .cli, exec_of_plain .sei, exec_of_plain .clv,
    exec_of_plain .cld, exec_of_plain .sed⟩

end Sys2Proof.Machine
end

section
/-! PROOFS. Control transfer (45_control.md): a branch is decided by its relative operand and its operation's condition,
a jump by its operand or by the two reads of its pointer, a return from interrupt by the three bytes it pulls. From
these O53, O54 and O56. -/

namespace Sys2Proof.Machine

/-! Branches (R250 to R258). -/

/-- The rows with a relative operand are the eight branches, each `Branch` of its own operation. -/
theorem exec_of_rel {i : Instr} {d : Int} (ho : i.operand = .rel d) (s : State) :
    exec i s = branch i.operation d s := by
  cases i <;> cases ho
  all_goals rfl

theorem baseCycles_of_rel {i : Instr} {d : Int} (ho : i.operand = .rel d) : baseCycles i.opcode = some 2 :=
  of_mapped_slots (P := fun b f _ => f = .rel → baseCycles b = some 2) (by decide) i (ho ▸ rfl)

/-- R258: the target in words is the sum in integers modulo 65536, the offset signed. -/
theorem add_ofInt_eq_ofInt_toNat_add (pc : Word) (d : Int) :
    pc + BitVec.ofInt 16 d = BitVec.ofInt 16 ((pc.toNat : Int) + d) := by
  rw [BitVec.ofInt_add, BitVec.ofInt_natCast, BitVec.ofNat_toNat, BitVec.setWidth_eq]

theorem exec_of_branchTaken {i : Instr} {d : Int} {s : State} (ho : i.operand = .rel d)
    (h : branchTaken i.operation s.p = true) :
    exec i s = .next { s with pc := BitVec.ofInt 16 ((s.pc.toNat : Int) + d) } := by
  rw [exec_of_rel ho, branch, if_pos h, add_ofInt_eq_ofInt_toNat_add]
  rfl

theorem exec_of_not_branchTaken {i : Instr} {d : Int} {s : State} (ho : i.operand = .rel d)
    (h : branchTaken i.operation s.p = false) : exec i s = .next s := by
  rw [exec_of_rel ho, branch, h]
  rfl

/-- R153 for the branches: 2, and 1 more when taken. -/
theorem cost_of_rel {i : Instr} {d : Int} (ho : i.operand = .rel d) (s : State) :
    cost i s = some (if branchTaken i.operation s.p then 3 else 2) := by
  rw [cost_of_baseCycles s (baseCycles_of_rel ho)]
  cases branchTaken i.operation s.p <;> rfl

/-! Jumps (R141, R259, R260). -/

theorem hiByte_append_loByte_eq_masks (v w : Word) :
    hiByte v ++ loByte w = (v &&& 0xFF00#16) ||| (w &&& 0x00FF#16) := by
  have hhigh : v &&& 0xFF00#16 = hiByte v ++ 0#8 := calc
    v &&& 0xFF00#16 = (hiByte v ++ loByte v) &&& (BitVec.allOnes 8 ++ 0#8) := by rw [hiByte_append_loByte]; rfl
    _ = hiByte v ++ 0#8 := by rw [BitVec.and_append, BitVec.and_allOnes, BitVec.and_zero]
  have hlow : w &&& 0x00FF#16 = 0#8 ++ loByte w := calc
    w &&& 0x00FF#16 = (hiByte w ++ loByte w) &&& (0#8 ++ BitVec.allOnes 8) := by rw [hiByte_append_loByte]; rfl
    _ = 0#8 ++ loByte w := by rw [BitVec.and_append, BitVec.and_allOnes, BitVec.and_zero]
  rw [hhigh, hlow, BitVec.or_append, BitVec.or_zero, BitVec.zero_or]

/-- R141: the high byte's place is the next address with the page of the pointer. -/
theorem pointerHighAddr_eq_masks (p : Word) :
    pointerHighAddr p = (p &&& 0xFF00#16) ||| ((p + 1#16) &&& 0x00FF#16) := by
  have hlow : loByte (p + 1#16) = loByte p + 1 := BitVec.extractLsb'_add (by decide)
  rw [pointerHighAddr, wordOf, ← hlow, hiByte_append_loByte_eq_masks]

theorem readPointer_of_fault {lowAddr : Word} {s : State} {e : Fault} (highAddr : Word)
    (h : busRead lowAddr s = .fault e) : readPointer lowAddr highAddr s = .fault e := by
  rw [readPointer, h, Access.andThen_fault]

/-- Once the low byte is read, what is left of a pointer read is the high byte. -/
theorem readPointer_of_read {lowAddr : Word} {s s1 : State} {lo : Byte} (highAddr : Word)
    (h : busRead lowAddr s = .ok lo s1) :
    readPointer lowAddr highAddr s = (busRead highAddr s1).andThen fun hi s2 => .ok (hi ++ lo) s2 := by
  rw [readPointer, h, Access.andThen_ok]
  rfl

theorem exec_jmpInd_of_target {p target : Word} {s u : State} (h : resolveIndirect p s = .ok target u) :
    exec (.jmpInd p) s = .next { u with pc := target } :=
  Access.conclude_of_ok h

theorem exec_jmpInd_of_fault {p : Word} {s : State} {e : Fault} (h : resolveIndirect p s = .fault e) :
    exec (.jmpInd p) s = .fault e :=
  Access.conclude_of_fault h

/-! Return from interrupt (R263). -/

theorem returnFromInterrupt_eq (s : State) : returnFromInterrupt s = .ok () { s with
    sp := s.sp + 3#8
    p := unpacked s.cfg.pullB (stackByte s (s.sp + 1#8)) s.p
    pc := stackByte s (s.sp + 3#8) ++ stackByte s (s.sp + 2#8) } := by
  simp only [returnFromInterrupt, pull_eq, pull16_eq, unpackP_eq, Access.andThen_ok, BitVec.add_assoc]
  rfl

/-! The obligations. -/

/-- Settles O53: each mnemonic tests the flag its rule names, and the relative operand and that condition decide the
effect and the cost. -/
theorem branchInstructions : Obligations.BranchInstructions := by
  refine ⟨encodes_of_slots (by decide), encodes_of_slots (by decide), encodes_of_slots (by decide),
    encodes_of_slots (by decide), encodes_of_slots (by decide), encodes_of_slots (by decide),
    encodes_of_slots (by decide), encodes_of_slots (by decide), fun d s i cond hi => ?_⟩
  have hrow : i.operand = .rel d ∧ branchTaken i.operation s.p = cond := by
    simp only [List.mem_cons, Prod.mk.injEq, List.not_mem_nil, or_false] at hi
    obtain ⟨rfl, rfl⟩ | ⟨rfl, rfl⟩ | ⟨rfl, rfl⟩ | ⟨rfl, rfl⟩ | ⟨rfl, rfl⟩ | ⟨rfl, rfl⟩ | ⟨rfl, rfl⟩ | ⟨rfl, rfl⟩ := hi
    all_goals exact ⟨rfl, rfl⟩
  obtain ⟨ho, rfl⟩ := hrow
  exact ⟨exec_of_branchTaken ho, exec_of_not_branchTaken ho, cost_of_rel ho s⟩

/-- Settles O54: the absolute jump makes no access; the indirect one is decided by the two reads of its pointer. -/
theorem jumpInstructions : Obligations.JumpInstructions := by
  refine ⟨encodes_of_slots (by decide), fun _ _ => rfl, fun p s => ?_⟩
  rw [← pointerHighAddr_eq_masks]
  refine ⟨fun e hlow => ?lowFault, fun lo s1 hlow => ⟨fun e hhigh => ?highFault, fun hi s2 hhigh => ?target⟩⟩
  case lowFault => exact exec_jmpInd_of_fault (readPointer_of_fault _ hlow)
  case highFault =>
    refine exec_jmpInd_of_fault ((readPointer_of_read _ hlow).trans ?_)
    rw [hhigh, Access.andThen_fault]
  case target =>
    refine exec_jmpInd_of_target ((readPointer_of_read _ hlow).trans ?_)
    rw [hhigh, Access.andThen_ok]

/-- Settles O56: the three pulls always complete, from work RAM. -/
theorem returnFromInterruptInstruction : Obligations.ReturnFromInterrupt :=
  ⟨encodes_of_slots (by decide), fun s => Access.conclude_of_ok (returnFromInterrupt_eq s)⟩

end Sys2Proof.Machine
end

section
/-! PROOFS. The combined read-modify-writes (46_undocumented.md R282 to R287): each modifies its byte as the shift,
rotate, increment or decrement it is named for, and then does the accumulator operation on the modified byte. From
these O57. -/

namespace Sys2Proof.Machine

/-! The accumulator operation on the modified byte. -/

/-- R282 to R284: a shift, then `A` combined with the modified byte, `C` from the shift. -/
theorem modifiesMemory_of_combineWithA {i : Instr} {shift : Operation} (f : Byte → Byte → Byte)
    (hby : ∀ c, ModifiesBy i.operation c (shifted shift c))
    (hto : ∀ r u, ModifiesTo i.operation r u (combineWithA f r.1 r.2 u)) :
    ModifiesMemory i (fun c old => (shifted shift c old).1) fun c old t =>
      { t with
        a := f t.a (shifted shift c old).1
        p := { znOf (f t.a (shifted shift c old).1) t.p with c := (shifted shift c old).2 } } :=
  modifiesMemory_of_modifiesTo hby fun c old => hto (shifted shift c old)

/-- R285: the carry shifted out is the carry in, and the addition then overwrites it. -/
theorem addWithCarry_setC_eq_addedTo (m : Byte) (c : Bool) (u : State) :
    addWithCarry m (setC c u) = addedTo m c u := by
  rw [addWithCarry_eq_addedTo]
  rfl

/-- R287: the addition of the complement is the subtraction. -/
theorem addWithCarry_xor_FF_eq_subtractedFrom (m : Byte) (u : State) :
    addWithCarry (m ^^^ 0xFF#8) u = subtractedFrom m u.p.c u := by
  rw [addWithCarry_eq_addedTo, subtractedFrom_eq_addedTo]

/-! The obligation. -/

/-- Settles O57: each modifies its byte by `ModifiesBy`, the shifts in numbers by `shifted`, and then does to `A` and
the flags what `ModifiesTo` says. -/
theorem combinedReadModifyWrite : Obligations.CombinedReadModifyWrite := by
  refine ⟨encodes_of_slots (by decide), encodes_of_slots (by decide), encodes_of_slots (by decide),
    encodes_of_slots (by decide), encodes_of_slots (by decide), encodes_of_slots (by decide), fun i =>
      ⟨fun hi => ?slo, fun hi => ?rla, fun hi => ?sre, fun hi => ?rra, fun hi => ?dcp, fun hi => ?isc⟩⟩
  case slo =>
    exact modifiesMemory_of_combineWithA (fun a r => a ||| r) (fun c => hi ▸ asl_eq_shifted c ▸ .slo c)
      fun r u => hi ▸ .slo r u
  case rla =>
    exact modifiesMemory_of_combineWithA (fun a r => a &&& r) (fun c => hi ▸ rol_eq_shifted c ▸ .rla c)
      fun r u => hi ▸ .rla r u
  case sre =>
    exact modifiesMemory_of_combineWithA (fun a r => a ^^^ r) (fun c => hi ▸ lsr_eq_shifted c ▸ .sre c)
      fun r u => hi ▸ .sre r u
  case rra =>
    have hby (c : Bool) : ModifiesBy i.operation c (shifted .ror c) := hi ▸ ror_eq_shifted c ▸ .rra c
    exact modifiesMemory_of_modifiesTo hby fun c old u => hi ▸ addWithCarry_setC_eq_addedTo _ _ u ▸ .rra _ u
  case dcp =>
    simp only [ofNat_toNat_add_255]
    refine modifiesMemory_of_modifiesTo (out := fun _ _ => false) (fun c => hi ▸ .dcp c) fun _ old u => ?_
    exact hi ▸ compareWith_eq_comparedWith u.a _ u ▸ .dcp _ u
  case isc =>
    simp only [ofNat_toNat_add_one]
    refine modifiesMemory_of_modifiesTo (out := fun _ _ => false) (fun c => hi ▸ .isc c) fun _ old u => ?_
    exact hi ▸ addWithCarry_xor_FF_eq_subtractedFrom _ u ▸ .isc _ u

end Sys2Proof.Machine
end

section
/-! PROOFS. The Ppu's registers (50_ppu.md R300 to R322): what an access of each register answers, one equation for
each, and which faults an access can raise. From these O28 to O31, O34 and O35. -/

namespace Sys2Proof.Machine

/-! The packed registers and the latches (R302 to R306, R311). -/

theorem PpuCtrl.pack_toNat (c : PpuCtrl) : c.pack.toNat =
    c.nmiEnable.toNat * 128 + c.masterSlave.toNat * 64 + c.spriteHeight.toNat * 32 + c.bgPatternTable.toNat * 16 +
      c.spritePatternTable.toNat * 8 + c.vramIncrement.toNat * 4 + c.nametableSelect.toNat := by
  simp only [PpuCtrl.pack, toNat_append_eq_add, BitVec.toNat_ofBool]
  omega

theorem PpuMask.pack_toNat (m : PpuMask) : m.pack.toNat =
    m.emphasis.toNat * 32 + m.showSprites.toNat * 16 + m.showBackground.toNat * 8 + m.spriteLeftColumn.toNat * 4 +
      m.backgroundLeftColumn.toNat * 2 + m.greyscale.toNat := by
  simp only [PpuMask.pack, toNat_append_eq_add, BitVec.toNat_ofBool]
  omega

theorem PpuStatus.pack_toNat (t : PpuStatus) :
    t.pack.toNat = t.vblank.toNat * 128 + t.sprite0Hit.toNat * 64 + t.spriteOverflow.toNat * 32 := by
  simp only [PpuStatus.pack, toNat_append_eq_add, BitVec.toNat_ofBool, BitVec.toNat_ofNat]
  omega

theorem PpuStatus.pack_getLsbD_seven (t : PpuStatus) : t.pack.getLsbD 7 = t.vblank := by
  obtain ⟨vblank, hit, overflow⟩ := t
  revert vblank hit overflow
  decide

theorem PpuCtrl.pack_unpack : ∀ v : Byte, (PpuCtrl.unpack v).pack = v := by decide

theorem PpuMask.pack_unpack : ∀ v : Byte, (PpuMask.unpack v).pack = v := by decide

theorem PpuCtrl.unpack_nametableSelect (v : Byte) :
    (PpuCtrl.unpack v).nametableSelect = BitVec.ofNat 2 (v.toNat % 4) :=
  BitVec.eq_of_toNat_eq (by simp [PpuCtrl.unpack])

theorem PpuMask.unpack_emphasis (v : Byte) : (PpuMask.unpack v).emphasis = BitVec.ofNat 3 (v.toNat / 32) := by
  simp only [PpuMask.unpack, BitVec.extractLsb', Nat.shiftRight_eq_div_pow, Nat.reducePow]

theorem Latch.write_eq_latched (l : Latch) (v : Byte) : l.write v = latched l v := by
  obtain ⟨value, toggle⟩ := l
  cases toggle <;> rfl

theorem latched_latched_of_first {l : Latch} (h : l.toggle = .first) (hi lo : Byte) :
    latched (latched l hi) lo = { value := hi ++ lo, toggle := .first } := by
  obtain ⟨value, toggle⟩ := l
  cases h
  exact congrArg (Latch.mk · .first) (congrArg (· ++ lo) (hiByte_wordOf hi (loByte value)))

/-! Each register by its address (R300, R301). -/

@[simp] theorem readRegister_ctrl (s : State) : readRegister 0x2000#16 s = .ok s.ppu.ctrl.pack s := rfl
@[simp] theorem readRegister_mask (s : State) : readRegister 0x2001#16 s = .ok s.ppu.mask.pack s := rfl
@[simp] theorem readRegister_status (s : State) : readRegister 0x2002#16 s = readStatus s := rfl
@[simp] theorem readRegister_oamAddr (s : State) : readRegister 0x2003#16 s = .ok s.ppu.oamAddr s := rfl
@[simp] theorem readRegister_oamData (s : State) :
    readRegister 0x2004#16 s = .ok (s.ppu.oam.read s.ppu.oamAddr.toNat) s :=
  readCell_of_memOf (r := .oam) s.ppu.oamAddr.isLt rfl
@[simp] theorem readRegister_scroll (s : State) : readRegister 0x2005#16 s = readWriteOnly 0x2005#16 s := rfl
@[simp] theorem readRegister_addr (s : State) : readRegister 0x2006#16 s = readWriteOnly 0x2006#16 s := rfl
@[simp] theorem readRegister_data (s : State) : readRegister 0x2007#16 s = readData s := rfl
@[simp] theorem readRegister_oamDma (s : State) : readRegister 0x4014#16 s = .ok s.ppu.oamDma s := rfl

@[simp] theorem writeRegister_ctrl (v : Byte) (s : State) : writeRegister 0x2000#16 v s =
    .ok v { s with ppu := { s.ppu with ctrl := PpuCtrl.unpack v } } := rfl
@[simp] theorem writeRegister_mask (v : Byte) (s : State) : writeRegister 0x2001#16 v s =
    .ok v { s with ppu := { s.ppu with mask := PpuMask.unpack v } } := rfl
@[simp] theorem writeRegister_status (v : Byte) (s : State) : writeRegister 0x2002#16 v s =
    (writeStatus s).andThen fun _ t => .ok v t := rfl
@[simp] theorem writeRegister_oamAddr (v : Byte) (s : State) : writeRegister 0x2003#16 v s =
    .ok v { s with ppu := { s.ppu with oamAddr := v } } := rfl
@[simp] theorem writeRegister_oamData (v : Byte) (s : State) : writeRegister 0x2004#16 v s =
    .ok v { s with ppu := { s.ppu with
      oam := s.ppu.oam.write s.ppu.oamAddr.toNat v
      oamAddr := if s.cfg.oamDataIncrement then s.ppu.oamAddr + 1#8 else s.ppu.oamAddr } } := by
  change (writeOamData v s).andThen (fun _ t => .ok v t) = _
  rw [writeOamData, writeCell_of_memOf v s.ppu.oamAddr.isLt rfl, Access.andThen_ok]
  cases s.cfg.oamDataIncrement <;> rfl
@[simp] theorem writeRegister_scroll (v : Byte) (s : State) : writeRegister 0x2005#16 v s =
    .ok v { s with ppu := { s.ppu with scroll := latched s.ppu.scroll v } } := by
  rw [← Latch.write_eq_latched]
  rfl
@[simp] theorem writeRegister_addr (v : Byte) (s : State) : writeRegister 0x2006#16 v s =
    .ok v { s with ppu := { s.ppu with vaddr := latched s.ppu.vaddr v } } := by
  rw [← Latch.write_eq_latched]
  rfl
@[simp] theorem writeRegister_data (v : Byte) (s : State) : writeRegister 0x2007#16 v s =
    (writeData v s).andThen fun _ t => .ok v t := rfl
@[simp] theorem writeRegister_oamDma (v : Byte) (s : State) : writeRegister 0x4014#16 v s =
    .ok v { s with ppu := { s.ppu with oamDma := v } } := rfl

/-- The addresses of the Ppu's interface (R300). -/
def ppuRegisterAddrs : List Word :=
  [0x2000#16, 0x2001#16, 0x2002#16, 0x2003#16, 0x2004#16, 0x2005#16, 0x2006#16, 0x2007#16, 0x4014#16]

theorem PpuReg.ofAddr_of_notMem {addr : Word} (h : addr ∉ ppuRegisterAddrs) : PpuReg.ofAddr addr = none := by
  simp only [ppuRegisterAddrs, List.mem_cons, List.not_mem_nil, or_false, not_or] at h
  simp only [PpuReg.ofAddr, h, if_false]

theorem readRegister_of_notMem {addr : Word} (s : State) (h : addr ∉ ppuRegisterAddrs) :
    readRegister addr s = .fault (.invalidPpuRegister addr) := by
  simp only [readRegister, PpuReg.ofAddr_of_notMem h]

theorem writeRegister_of_notMem {addr : Word} (v : Byte) (s : State) (h : addr ∉ ppuRegisterAddrs) :
    writeRegister addr v s = .fault (.invalidPpuRegister addr) := by
  simp only [writeRegister, PpuReg.ofAddr_of_notMem h]

/-! The status register and the data port (R306, R316 to R318). -/

theorem readStatus_eq (s : State) : readStatus s = .ok s.ppu.status.pack { s with ppu := { s.ppu with
    status := { s.ppu.status with vblank := if s.cfg.vblank = .off then s.ppu.status.vblank else false }
    scroll := { s.ppu.scroll with toggle := .first }
    vaddr := { s.ppu.vaddr with toggle := .first } } } := by
  unfold readStatus
  cases s.cfg.vblank <;> rfl

theorem vramAddress_toNat (s : State) : (vramAddress s).toNat = dataAddr s := BitVec.toNat_setWidth 14 _

theorem vramAddress_eq_ofNat (s : State) : vramAddress s = BitVec.ofNat 14 (dataAddr s) := by
  rw [← vramAddress_toNat, BitVec.ofNat_toNat, BitVec.setWidth_eq]

theorem advanceVaddr_eq_stepped (s : State) : advanceVaddr s = stepped s := by
  simp only [advanceVaddr, vramStep, stepped]
  cases s.cfg.vramIncrement <;> rfl

/-- Nametable memory and its mirror, which ends at the palette (20_memory.md R75, R76). -/
theorem ppuTarget_nt_mod {a : PpuAddr} (h : 0x2000 ≤ a.toNat) (h' : a.toNat < 0x3F00) :
    ppuTarget a = some (.nt, (a.toNat - 0x2000) % 0x1000) := by
  by_cases hm : a.toNat < 0x3000
  · rw [ppuTarget_nt h hm, Nat.mod_eq_of_lt (by omega)]
  · have hi : a.toNat - 0x3000 = (a.toNat - 0x2000) % 0x1000 := by omega
    rw [ppuTarget_ntMirror (Nat.not_lt.mp hm) h', hi]

/-- A read of the data port, by the cell that the address decodes to (R316). -/
theorem readData_of_target {s : State} {r : Region} {i : Nat} {m : Memory}
    (hc : ppuTarget (vramAddress s) = some (r, i)) (hi : i < r.size) (hm : s.memOf r = some m) :
    readData s = if 0x3F00 ≤ dataAddr s then .ok (m.read i) (stepped s)
      else .ok s.ppu.readBuf (stepped { s with ppu := { s.ppu with readBuf := m.read i } }) := by
  rw [readData, ppuRead_of_target hc hi hm, Access.andThen_ok, vramAddress_toNat, advanceVaddr_eq_stepped,
    advanceVaddr_eq_stepped]
  rfl

/-- A write of the data port, by the cell that the address decodes to (R317). -/
theorem writeData_of_target {s : State} {r : Region} {i : Nat} {m : Memory} (v : Byte)
    (hc : ppuTarget (vramAddress s) = some (r, i)) (hi : i < r.size) (hm : s.memOf r = some m) :
    writeData v s = .ok () (stepped (s.setMem r (m.write i v))) := by
  rw [writeData, ppuWrite_of_target v hc hi hm, Access.andThen_ok, advanceVaddr_eq_stepped]

theorem readData_of_pal {s : State} (h : 0x3F00 ≤ dataAddr s) :
    readData s = .ok (s.ppu.pal.read ((dataAddr s - 0x3F00) % 0x20)) (stepped s) := by
  rw [readData_of_target (ppuTarget_pal (vramAddress_toNat s ▸ h)) (Nat.mod_lt _ (by decide)) rfl, if_pos h,
    vramAddress_toNat]

theorem readData_of_nt {s : State} (h : 0x2000 ≤ dataAddr s) (h' : dataAddr s < 0x3F00) :
    readData s = .ok s.ppu.readBuf (stepped
      { s with ppu := { s.ppu with readBuf := s.ppu.nt.read ((dataAddr s - 0x2000) % 0x1000) } }) := by
  rw [readData_of_target (ppuTarget_nt_mod (vramAddress_toNat s ▸ h) (vramAddress_toNat s ▸ h'))
    (Nat.mod_lt _ (by decide)) rfl, if_neg (Nat.not_le.mpr h'), vramAddress_toNat]

theorem readData_of_unmapped {s : State} (h : dataAddr s < 0x2000) :
    readData s = .fault (.ppuBusUnmapped (vramAddress s)) := by
  rw [readData, ppuRead, ppuTarget_below (vramAddress_toNat s ▸ h), Access.andThen_fault]

theorem writeData_of_pal (v : Byte) {s : State} (h : 0x3F00 ≤ dataAddr s) :
    writeData v s = .ok () (stepped
      { s with ppu := { s.ppu with pal := s.ppu.pal.write ((dataAddr s - 0x3F00) % 0x20) v } }) := by
  rw [writeData_of_target v (ppuTarget_pal (vramAddress_toNat s ▸ h)) (Nat.mod_lt _ (by decide)) rfl,
    vramAddress_toNat]
  rfl

theorem writeData_of_nt (v : Byte) {s : State} (h : 0x2000 ≤ dataAddr s) (h' : dataAddr s < 0x3F00) :
    writeData v s = .ok () (stepped
      { s with ppu := { s.ppu with nt := s.ppu.nt.write ((dataAddr s - 0x2000) % 0x1000) v } }) := by
  rw [writeData_of_target v (ppuTarget_nt_mod (vramAddress_toNat s ▸ h) (vramAddress_toNat s ▸ h'))
    (Nat.mod_lt _ (by decide)) rfl, vramAddress_toNat]
  rfl

theorem writeData_of_unmapped (v : Byte) {s : State} (h : dataAddr s < 0x2000) :
    writeData v s = .fault (.ppuBusUnmapped (vramAddress s)) := by
  rw [writeData, ppuWrite, ppuTarget_below (vramAddress_toNat s ▸ h), Access.andThen_fault]

/-- What a read of the data port can do. -/
theorem readData_cases (s : State) :
    (dataAddr s < 0x2000 ∧ readData s = .fault (.ppuBusUnmapped (vramAddress s))) ∨
      ∃ v b, readData s = .ok v (stepped { s with ppu := { s.ppu with readBuf := b } }) := by
  rcases Nat.lt_or_ge (dataAddr s) 0x2000 with hlow | hlow
  · exact .inl ⟨hlow, readData_of_unmapped hlow⟩
  · rcases Nat.lt_or_ge (dataAddr s) 0x3F00 with hhigh | hhigh
    · exact .inr ⟨_, _, readData_of_nt hlow hhigh⟩
    · exact .inr ⟨_, s.ppu.readBuf, readData_of_pal hhigh⟩

/-- What a write of the data port can do. -/
theorem writeData_cases (v : Byte) (s : State) :
    (dataAddr s < 0x2000 ∧ writeData v s = .fault (.ppuBusUnmapped (vramAddress s))) ∨
      ∃ nt pal, writeData v s = .ok () (stepped { s with ppu := { s.ppu with nt := nt, pal := pal } }) := by
  rcases Nat.lt_or_ge (dataAddr s) 0x2000 with hlow | hlow
  · exact .inl ⟨hlow, writeData_of_unmapped v hlow⟩
  · rcases Nat.lt_or_ge (dataAddr s) 0x3F00 with hhigh | hhigh
    · exact .inr ⟨_, s.ppu.pal, writeData_of_nt v hlow hhigh⟩
    · exact .inr ⟨s.ppu.nt, _, writeData_of_pal v hhigh⟩

/-! What a register access can do. -/

/-- A read of a register changes nothing, but for the status register, the write-only ones and the data port. -/
theorem readRegister_cases {addr : Word} (ha : addr ∈ ppuRegisterAddrs) (s : State) :
    (∃ v, readRegister addr s = .ok v s) ∨ addr = 0x2002#16 ∨ addr = 0x2005#16 ∨ addr = 0x2006#16 ∨
      addr = 0x2007#16 := by
  simp only [ppuRegisterAddrs, List.mem_cons, List.not_mem_nil, or_false] at ha
  obtain rfl | rfl | rfl | rfl | rfl | rfl | rfl | rfl | rfl := ha
  · exact .inl ⟨_, readRegister_ctrl s⟩
  · exact .inl ⟨_, readRegister_mask s⟩
  · exact .inr (.inl rfl)
  · exact .inl ⟨_, readRegister_oamAddr s⟩
  · exact .inl ⟨_, readRegister_oamData s⟩
  · exact .inr (.inr (.inl rfl))
  · exact .inr (.inr (.inr (.inl rfl)))
  · exact .inr (.inr (.inr (.inr rfl)))
  · exact .inl ⟨_, readRegister_oamDma s⟩

/-- A write of a register completes and keeps the status flags, but for the status register and the data port. -/
theorem writeRegister_cases {addr : Word} (ha : addr ∈ ppuRegisterAddrs) (v : Byte) (s : State) :
    (∃ t, writeRegister addr v s = .ok v t ∧ t.ppu.status = s.ppu.status) ∨ addr = 0x2002#16 ∨
      addr = 0x2007#16 := by
  simp only [ppuRegisterAddrs, List.mem_cons, List.not_mem_nil, or_false] at ha
  obtain rfl | rfl | rfl | rfl | rfl | rfl | rfl | rfl | rfl := ha
  · exact .inl ⟨_, writeRegister_ctrl v s, rfl⟩
  · exact .inl ⟨_, writeRegister_mask v s, rfl⟩
  · exact .inr (.inl rfl)
  · exact .inl ⟨_, writeRegister_oamAddr v s, rfl⟩
  · exact .inl ⟨_, writeRegister_oamData v s, rfl⟩
  · exact .inl ⟨_, writeRegister_scroll v s, rfl⟩
  · exact .inl ⟨_, writeRegister_addr v s, rfl⟩
  · exact .inr (.inr rfl)
  · exact .inl ⟨_, writeRegister_oamDma v s, rfl⟩

/-! Which faults an access can raise (R372; 60_exceptions.md R370). -/

/-- The CpuBus decoder presents the nine registers only (20_memory.md R65). -/
theorem mem_ppuRegisterAddrs_of_cpuTarget {addr reg : Word} (h : cpuTarget addr = .ppuRegister reg) :
    reg ∈ ppuRegisterAddrs := by
  have hwindow : ∀ k < 8, BitVec.ofNat 16 (0x2000 + k) ∈ ppuRegisterAddrs := by decide
  simp only [cpuTarget] at h
  split_ifs at h
  · exact CpuTarget.ppuRegister.inj h ▸ hwindow _ (Nat.mod_lt _ (by decide))
  · exact CpuTarget.ppuRegister.inj h ▸ by decide

/-- The CpuBus decoder presents an index within its region (20_memory.md R64 to R70). -/
theorem lt_size_of_cpuTarget {addr : Word} {r : Region} {i : Nat} (h : cpuTarget addr = .cell r i) : i < r.size := by
  have haddr := addr.isLt
  simp only [cpuTarget] at h
  split_ifs at h <;> cases h <;> simp only [Region.size] <;> omega

/-- Only a bank has no Memory, before an image is loaded. -/
theorem State.memOf_eq_none {s : State} {r : Region} (h : s.memOf r = none) : r = .prg1 ∨ r = .prg2 := by
  cases r <;> simp_all [State.memOf]

theorem readCell_fault {r : Region} {i : Nat} {s : State} {f : Fault} (hi : i < r.size)
    (h : readCell r i s = .fault f) : f = .noProgramLoaded r i ∧ (r = .prg1 ∨ r = .prg2) := by
  rw [readCell, if_pos hi] at h
  split at h <;> cases h
  exact ⟨rfl, State.memOf_eq_none ‹_›⟩

theorem writeCell_fault {r : Region} {i : Nat} {v : Byte} {s : State} {f : Fault} (hi : i < r.size)
    (h : writeCell r i v s = .fault f) : f = .noProgramLoaded r i ∧ (r = .prg1 ∨ r = .prg2) := by
  rw [writeCell, if_pos hi] at h
  split at h <;> cases h
  exact ⟨rfl, State.memOf_eq_none ‹_›⟩

theorem raisedByAccess_of_readCell {addr : Word} {r : Region} {i : Nat} {s : State} {f : Fault}
    (hc : cpuTarget addr = .cell r i) (h : readCell r i s = .fault f) : f.raisedByAccess = true := by
  have hi := lt_size_of_cpuTarget hc
  obtain ⟨rfl, rfl | rfl⟩ := readCell_fault hi h <;> exact decide_eq_true ⟨by decide, hi⟩

theorem raisedByAccess_of_writeCell {addr : Word} {r : Region} {i : Nat} {v : Byte} {s : State} {f : Fault}
    (hc : cpuTarget addr = .cell r i) (h : writeCell r i v s = .fault f) : f.raisedByAccess = true := by
  have hi := lt_size_of_cpuTarget hc
  obtain ⟨rfl, rfl | rfl⟩ := writeCell_fault hi h <;> exact decide_eq_true ⟨by decide, hi⟩

theorem raisedByAccess_of_unmapped {s : State} (h : dataAddr s < 0x2000) :
    (Fault.ppuBusUnmapped (vramAddress s)).raisedByAccess = true :=
  decide_eq_true (vramAddress_toNat s ▸ h)

theorem raisedByAccess_of_readData {s : State} {f : Fault} (h : readData s = .fault f) : f.raisedByAccess = true := by
  rcases readData_cases s with ⟨hlow, hread⟩ | ⟨_, _, hread⟩
  · cases hread ▸ h
    exact raisedByAccess_of_unmapped hlow
  · cases hread ▸ h

theorem raisedByAccess_of_writeData {v : Byte} {s : State} {f : Fault} (h : writeData v s = .fault f) :
    f.raisedByAccess = true := by
  rcases writeData_cases v s with ⟨hlow, hwrite⟩ | ⟨_, _, hwrite⟩
  · cases hwrite ▸ h
    exact raisedByAccess_of_unmapped hlow
  · cases hwrite ▸ h

theorem readWriteOnly_fault {addr : Word} {s : State} {f : Fault} (h : readWriteOnly addr s = .fault f) :
    f = .writeOnlyRegisterRead addr := by
  unfold readWriteOnly at h
  split at h <;> cases h
  rfl

theorem writeStatus_fault {s : State} {f : Fault} (h : writeStatus s = .fault f) :
    f = .readOnlyRegisterWrite 0x2002#16 := by
  unfold writeStatus at h
  split at h <;> cases h
  rfl

/-- A chain that goes on without an access faults only where its first access does. -/
theorem fault_of_andThen_ok {α β : Type} {r : Access α} {w : β} {f : Fault}
    (h : (r.andThen fun _ t => .ok w t) = .fault f) : r = .fault f := by
  obtain h | ⟨_, _, _, h⟩ := Access.andThen_eq_fault.mp h
  · exact h
  · cases h

theorem raisedByAccess_of_readRegister {addr : Word} {s : State} {f : Fault} (ha : addr ∈ ppuRegisterAddrs)
    (h : readRegister addr s = .fault f) : f.raisedByAccess = true := by
  obtain ⟨_, hplain⟩ | rfl | rfl | rfl | rfl := readRegister_cases ha s
  · cases hplain ▸ h
  · cases (readRegister_status s).trans (readStatus_eq s) ▸ h
  · exact readWriteOnly_fault h ▸ rfl
  · exact readWriteOnly_fault h ▸ rfl
  · exact raisedByAccess_of_readData h

theorem raisedByAccess_of_writeRegister {addr : Word} {v : Byte} {s : State} {f : Fault} (ha : addr ∈ ppuRegisterAddrs)
    (h : writeRegister addr v s = .fault f) : f.raisedByAccess = true := by
  obtain ⟨_, hplain, _⟩ | rfl | rfl := writeRegister_cases ha v s
  · cases hplain ▸ h
  · exact writeStatus_fault (fault_of_andThen_ok h) ▸ rfl
  · exact raisedByAccess_of_writeData (fault_of_andThen_ok h)

/-- A fault of a CpuBus read is one that an instruction's accesses can raise. -/
theorem raisedByAccess_of_busRead {addr : Word} {s : State} {f : Fault} (h : busRead addr s = .fault f) :
    f.raisedByAccess = true := by
  cases hc : cpuTarget addr with
  | cell r i =>
    simp only [busRead, hc] at h
    exact raisedByAccess_of_readCell hc h
  | ppuRegister reg =>
    exact raisedByAccess_of_readRegister (mem_ppuRegisterAddrs_of_cpuTarget hc) (busRead_of_register s hc ▸ h)

theorem raisedByAccess_of_writeBank {addr : Word} {r : Region} {i : Nat} {v : Byte} {s : State} {f : Fault}
    (hc : cpuTarget addr = .cell r i) (hr : r = .prg1 ∨ r = .prg2) (h : writeBank addr r i v s = .fault f) :
    f.raisedByAccess = true := by
  unfold writeBank at h
  split at h
  · exact raisedByAccess_of_writeCell hc h
  · cases h
  · cases h
    refine decide_eq_true (Nat.not_lt.mp fun hlow => ?_)
    simp only [cpuTarget] at hc
    split_ifs at hc <;> cases hc <;> simp at hr

/-- A write to a cell goes by `PRG_WRITE_POLICY` at a bank, straight to the region elsewhere (20_memory.md R72). -/
theorem busWrite_cell_cases {addr : Word} {r : Region} {i : Nat} (v : Byte) (s : State)
    (hc : cpuTarget addr = .cell r i) :
    (r = .prg1 ∨ r = .prg2) ∧ busWrite addr v s = writeBank addr r i v s ∨
      busWrite addr v s = writeCell r i v s := by
  by_cases hr : r = .prg1 ∨ r = .prg2
  · exact .inl ⟨hr, busWrite_of_bank v s hc hr⟩
  · refine .inr ?_
    cases r
    case prg1 => exact absurd (.inl rfl) hr
    case prg2 => exact absurd (.inr rfl) hr
    all_goals simp only [busWrite, hc]

/-- A fault of a CpuBus write is one that an instruction's accesses can raise. -/
theorem raisedByAccess_of_busWrite {addr : Word} {v : Byte} {s : State} {f : Fault} (h : busWrite addr v s = .fault f) :
    f.raisedByAccess = true := by
  cases hc : cpuTarget addr with
  | cell r i =>
    rcases busWrite_cell_cases v s hc with ⟨hr, hw⟩ | hw
    · exact raisedByAccess_of_writeBank hc hr (hw ▸ h)
    · exact raisedByAccess_of_writeCell hc (hw ▸ h)
  | ppuRegister reg =>
    exact raisedByAccess_of_writeRegister (mem_ppuRegisterAddrs_of_cpuTarget hc)
      (fault_of_andThen_ok (busWrite_of_register v s hc ▸ h))

/-! The obligations. -/

/-- Settles O28: the register equations, and the packing undoes the unpacking. -/
theorem controlAndMaskRegisters : Obligations.ControlAndMaskRegisters := by
  intro v s
  refine ⟨?_, ?_, ⟨_, readRegister_ctrl s, PpuCtrl.pack_toNat _⟩, ⟨_, readRegister_mask s, PpuMask.pack_toNat _⟩,
    fun t h => ?_, fun t h => ?_⟩
  · rw [writeRegister_ctrl, ← PpuCtrl.unpack_nametableSelect]
    rfl
  · rw [writeRegister_mask, ← PpuMask.unpack_emphasis]
    rfl
  · cases h
    exact congrArg (Access.ok · _) (PpuCtrl.pack_unpack v)
  · cases h
    exact congrArg (Access.ok · _) (PpuMask.pack_unpack v)

/-- Settles O29: `readStatus_eq` for the read; the write goes by `REG_ACCESS_MODE`. -/
theorem statusRegister : Obligations.StatusRegister := by
  refine ⟨fun s => ⟨_, PpuStatus.pack_toNat _, readStatus_eq s⟩, fun v s => ⟨fun h => ?_, fun h => ?_⟩⟩
  · rw [writeRegister_status, writeStatus, h, Access.andThen_fault]
  · rw [writeRegister_status, writeStatus, h, Access.andThen_ok]

/-- Settles O30: the register equations of the three. -/
theorem oamRegisters : Obligations.OamRegisters := by
  intro v s
  refine ⟨writeRegister_oamAddr v s, readRegister_oamAddr s, readRegister_oamData s, fun h => ?_,
    writeRegister_oamDma v s, readRegister_oamDma s⟩
  rw [writeRegister_oamData, h]
  rfl

/-- Settles O31: each write latches on its own latch; a status read leaves the toggle first, so two writes make the
pair. -/
theorem writeTwiceLatches : Obligations.WriteTwiceLatches := by
  refine ⟨fun v s => ⟨writeRegister_scroll v s, writeRegister_addr v s⟩, fun hi lo b s s1 s2 s3 h1 h2 h3 => ?_⟩
  have htoggle : s1.ppu.vaddr.toggle = .first := by
    rw [readRegister_status, readStatus_eq] at h1
    cases h1
    rfl
  rw [writeRegister_addr] at h2 h3
  cases h2
  cases h3
  exact ⟨latched_latched_of_first htoggle hi lo, rfl⟩

/-- Settles O34: the three ranges of the address presented. -/
theorem dataPort : Obligations.DataPort := by
  intro v s
  simp only [readRegister_data, writeRegister_data]
  refine ⟨fun h => ⟨readData_of_pal h, ?_⟩, fun h h' => ⟨readData_of_nt h h', ?_⟩, fun h => ?_⟩
  · rw [writeData_of_pal v h, Access.andThen_ok]
  · rw [writeData_of_nt v h h', Access.andThen_ok]
  · rw [readData_of_unmapped h, writeData_of_unmapped v h, Access.andThen_fault, vramAddress_eq_ofNat]
    exact ⟨rfl, rfl⟩

/-- Settles O35: the address decodes to no register; and a bus access raises only faults of an access. -/
theorem onlyNineRegisters : Obligations.OnlyNineRegisters := by
  refine ⟨fun addr v s h => ⟨readRegister_of_notMem s h, writeRegister_of_notMem v s h⟩, fun addr a v s => ?_⟩
  exact ⟨fun h => Bool.false_ne_true (raisedByAccess_of_busRead h),
    fun h => Bool.false_ne_true (raisedByAccess_of_busWrite h)⟩

end Sys2Proof.Machine
end

section
/-! PROOFS. The Ppu's timing engine (50_ppu.md R323 to R327): the counters as functions of the number of clocks, and
what the clocks of a frame write. From these O36 to O38. -/

namespace Sys2Proof.Machine

theorem ppuSteps_succ (n : Nat) (s : State) : ppuSteps (n + 1) s = ppuStep (ppuSteps n s) := by
  induction n generalizing s with
  | zero => rfl
  | succ n ih => exact ih (ppuStep s)

/-! The counters (R325). -/

@[simp] theorem ppuStep_cycle (s : State) : (ppuStep s).ppu.cycle = nextCycle s.ppu := rfl
@[simp] theorem ppuStep_scanline (s : State) : (ppuStep s).ppu.scanline = nextScanline s.ppu := rfl

theorem nextCycle_of_mod {p : Ppu} {k : Nat} (hc : p.cycle = k % 341) : nextCycle p = (k + 1) % 341 := by
  rw [nextCycle, hc]
  split <;> omega

theorem nextScanline_of_div {p : Ppu} {k : Nat} (hc : p.cycle = k % 341) (hl : p.scanline = k / 341 % 262) :
    nextScanline p = (k + 1) / 341 % 262 := by
  rw [nextScanline, hc, hl]
  split
  · split <;> omega
  · omega

/-- At the position of clock `k` of a frame, `n` clocks move on to the position of clock `k + n`. -/
theorem ppuSteps_counters {s : State} {k : Nat} (hc : s.ppu.cycle = k % 341) (hl : s.ppu.scanline = k / 341 % 262)
    (n : Nat) :
    (ppuSteps n s).ppu.cycle = (k + n) % 341 ∧ (ppuSteps n s).ppu.scanline = (k + n) / 341 % 262 := by
  induction n with
  | zero => exact ⟨hc, hl⟩
  | succ n ih =>
    obtain ⟨ihc, ihl⟩ := ih
    rw [ppuSteps_succ, ppuStep_cycle, ppuStep_scanline]
    exact ⟨nextCycle_of_mod ihc, nextScanline_of_div ihc ihl⟩

theorem ppuSteps_counters_of_origin {s : State} (hl : s.ppu.scanline = 0) (hc : s.ppu.cycle = 0) (n : Nat) :
    (ppuSteps n s).ppu.cycle = n % 341 ∧ (ppuSteps n s).ppu.scanline = n / 341 % 262 := by
  simpa only [Nat.zero_add] using ppuSteps_counters (k := 0) hc hl n

/-! The clocks of one frame from (0, 0) (R326). -/

section Frame

variable {s : State} (hl : s.ppu.scanline = 0) (hc : s.ppu.cycle = 0)
include hl hc

theorem fb_ppuSteps_succ {n : Nat} (hn : n < 89342) : (ppuSteps (n + 1) s).fb =
    if n / 341 ≤ 239 ∧ n % 341 < 256 then
      (ppuSteps n s).fb.write (n / 341 * 256 + n % 341) (Config.pixel (n / 341) (n % 341) (ppuSteps n s).ppu)
    else (ppuSteps n s).fb := by
  obtain ⟨hcycle, hscanline⟩ := ppuSteps_counters_of_origin hl hc n
  rw [Nat.mod_eq_of_lt (by omega)] at hscanline
  rw [ppuSteps_succ, ← hcycle, ← hscanline]
  rfl

/-- Clocks that write other cells than `k` leave it as it was. -/
theorem fb_read_ppuSteps_of_unwritten {a b k : Nat} (hab : a ≤ b) (hb : b ≤ 89342)
    (hk : ∀ n, a ≤ n → n < b → n / 341 ≤ 239 → n % 341 < 256 → k ≠ n / 341 * 256 + n % 341) :
    (ppuSteps b s).fb.read k = (ppuSteps a s).fb.read k := by
  induction b, hab using Nat.le_induction with
  | base => rfl
  | succ b hab ih =>
    have hkeep := ih (by omega) fun n h h' => hk n h (by omega)
    rw [fb_ppuSteps_succ hl hc hb]
    split
    · next hvisible =>
      obtain ⟨hline, hcolumn⟩ := hvisible
      rw [Framebuffer.read_write_other _ _ (hk b hab b.lt_succ_self hline hcolumn), hkeep]
    · exact hkeep

/-- The cell of a visible position holds that position's pixel, which the rest of the frame does not overwrite. -/
theorem fb_read_frame {y x : Nat} (hy : y < 240) (hx : x < 256) :
    (ppuSteps 89342 s).fb.read (y * 256 + x) = Config.pixel y x (ppuSteps (y * 341 + x) s).ppu := by
  have hdiv : (y * 341 + x) / 341 = y := by omega
  have hmod : (y * 341 + x) % 341 = x := by omega
  have hwritten := fb_ppuSteps_succ hl hc (n := y * 341 + x) (by omega)
  rw [hdiv, hmod, if_pos ⟨by omega, hx⟩] at hwritten
  rw [fb_read_ppuSteps_of_unwritten hl hc (a := y * 341 + x + 1) (by omega) le_rfl (by intros; omega), hwritten,
    Framebuffer.read_write_same]

/-- The cells of the visible positions end at 61440. -/
theorem fb_read_outside {k : Nat} (hk : 61440 ≤ k) : (ppuSteps 89342 s).fb.read k = s.fb.read k :=
  fb_read_ppuSteps_of_unwritten hl hc (a := 0) (Nat.zero_le _) le_rfl (by intros; omega)

end Frame

/-! The obligations. -/

/-- Settles O36: `ppuStep`, with the flags kept by the policy. -/
theorem ppuClock : Obligations.PpuClock := by
  intro s h
  simp only [ppuStep, h, nextStatus]
  rfl

/-- Settles O37: the counters of any start as those of a clock `k` from (0, 0). -/
theorem countersAfterAnyNumberOfClocks : Obligations.CountersAfterAnyNumberOfClocks := by
  refine ⟨fun n s hl hc => ppuSteps_counters_of_origin hl hc n, fun s hl hc => ?_, rfl⟩
  obtain ⟨hcycle, hscanline⟩ := ppuSteps_counters (s := s) (k := s.ppu.scanline * 341 + s.ppu.cycle) (by omega)
    (by omega) 89342
  exact ⟨by omega, by omega⟩

/-- Settles O38: each clock's write, the cell that it leaves, and the cells that no clock writes. -/
theorem frameWritesEveryCellOnce : Obligations.FrameWritesEveryCellOnce :=
  ⟨rfl, fun _ hl hc => ⟨fun _ => fb_ppuSteps_succ hl hc, fun _ _ => fb_read_frame hl hc,
    fun _ => fb_read_outside hl hc⟩⟩

end Sys2Proof.Machine
end

section
/-! PROOFS. Relations kept by a step: a relation of the states before and after that holds across each CpuBus access,
each change of the Cpu alone and each PPU clock, and that chains, holds across every instruction and every step
(55_console.md R352). -/

namespace Sys2Proof.Machine

/-- The two states differ at most in the Cpu: its registers, its flags, the status of the run. -/
def SameButCpu (s t : State) : Prop :=
  { s with a := t.a, x := t.x, y := t.y, pc := t.pc, sp := t.sp, p := t.p, run := t.run } = t

/-- A relation that chains and that holds across everything a step is made of. -/
structure StepRelation (R : State → State → Prop) : Prop where
  trans {s t u : State} : R s t → R t u → R s u
  read {addr : Word} {v : Byte} {s t : State} : busRead addr s = .ok v t → R s t
  write {addr : Word} {v : Byte} {s t : State} : busWrite addr v s = .ok () t → R s t
  cpu {s t : State} : SameButCpu s t → R s t
  clock (s : State) : R s (ppuStep s)

/-! What an instruction does after its accesses is a change of the Cpu. -/

theorem ReadsTo.sameButCpu {op : Operation} {v : Byte} {u t : State} (h : ReadsTo op v u t) : SameButCpu u t := by
  cases h <;> rfl

theorem ModifiesTo.sameButCpu {op : Operation} {r : Byte × Bool} {u t : State} (h : ModifiesTo op r u t) :
    SameButCpu u t := by
  cases h <;> rfl

theorem Plain.sameButCpu {op : Operation} {s t : State} (h : Plain s op t) : SameButCpu s t := by
  cases h <;> rfl

namespace StepRelation

variable {R : State → State → Prop} (hR : StepRelation R)
include hR

theorem refl (s : State) : R s s := hR.cpu rfl

/-! The operand layer (40_cpu_common.md R141 to R145, R154). -/

theorem readPointer {lo hi w : Word} {s t : State} (h : readPointer lo hi s = .ok w t) : R s t := by
  obtain ⟨_, s1, h1, h⟩ := Access.andThen_eq_ok.mp h
  obtain ⟨_, s2, h2, h⟩ := Access.andThen_eq_ok.mp h
  cases h
  exact hR.trans (hR.read h1) (hR.read h2)

theorem resolve {m : MemMode} {addr : Word} {s t : State} (h : resolve m s = .ok addr t) : R s t := by
  cases m with
  | izx z => exact hR.readPointer h
  | izy z =>
    obtain ⟨_, s1, h1, h⟩ := Access.andThen_eq_ok.mp h
    cases h
    exact hR.readPointer h1
  | _ =>
    cases h
    exact hR.refl s

theorem load {src : Src} {v : Byte} {s t : State} (h : load src s = .ok v t) : R s t := by
  cases src with
  | imm w =>
    cases h
    exact hR.refl s
  | mem m =>
    obtain ⟨_, s1, h1, h2⟩ := Access.andThen_eq_ok.mp h
    exact hR.trans (hR.resolve h1) (hR.read h2)

theorem store {m : MemMode} {v : Byte} {s t : State} (h : store m v s = .ok () t) : R s t := by
  obtain ⟨_, s1, h1, h2⟩ := Access.andThen_eq_ok.mp h
  exact hR.trans (hR.resolve h1) (hR.write h2)

theorem modify_mem {m : MemMode} {f : Byte → Byte × Bool} {r : Byte × Bool} {s t : State}
    (h : modify (.mem m) f s = .ok r t) : R s t := by
  obtain ⟨_, s1, h1, h⟩ := Access.andThen_eq_ok.mp h
  obtain ⟨_, s2, h2, h⟩ := Access.andThen_eq_ok.mp h
  obtain ⟨_, s3, h3, h⟩ := Access.andThen_eq_ok.mp h
  cases h
  exact hR.trans (hR.resolve h1) (hR.trans (hR.read h2) (hR.write h3))

/-! The stack (R147 to R149). -/

theorem push {v : Byte} {s t : State} (h : push v s = .ok () t) : R s t := by
  obtain ⟨_, s1, h1, h⟩ := Access.andThen_eq_ok.mp h
  cases h
  exact hR.trans (hR.write h1) (hR.cpu rfl)

theorem pull {v : Byte} {s t : State} (h : pull s = .ok v t) : R s t :=
  hR.trans (t := s.setSp (s.sp + 1)) (hR.cpu rfl) (hR.read h)

theorem push16 {w : Word} {s t : State} (h : push16 w s = .ok () t) : R s t := by
  obtain ⟨_, s1, h1, h2⟩ := Access.andThen_eq_ok.mp h
  exact hR.trans (hR.push h1) (hR.push h2)

theorem pull16 {w : Word} {s t : State} (h : pull16 s = .ok w t) : R s t := by
  obtain ⟨_, s1, h1, h⟩ := Access.andThen_eq_ok.mp h
  obtain ⟨_, s2, h2, h⟩ := Access.andThen_eq_ok.mp h
  cases h
  exact hR.trans (hR.pull h1) (hR.pull h2)

theorem returnFromInterrupt {s t : State} (h : returnFromInterrupt s = .ok () t) : R s t := by
  obtain ⟨b, s1, h1, h⟩ := Access.andThen_eq_ok.mp h
  obtain ⟨_, s2, h2, h⟩ := Access.andThen_eq_ok.mp h
  cases h
  have hflags : R s1 (unpackP b s1) := hR.cpu rfl
  exact hR.trans (hR.pull h1) (hR.trans hflags (hR.trans (hR.pull16 h2) (hR.cpu rfl)))

/-! The instruction, its fetch, the step. -/

theorem exec {i : Instr} {s t : State} (h : exec i s = .next t) : R s t := by
  cases exec_effect h with
  | read _ hl ht => exact hR.trans (hR.load hl) (hR.cpu ht.sameButCpu)
  | write _ _ ht => exact hR.store ht
  | modify _ _ hm ht => exact hR.trans (hR.modify_mem hm) (hR.cpu ht.sameButCpu)
  | @modifyAcc f _ _ _ ht =>
    have hacc : R s (s.setA (f s.a).1) := hR.cpu rfl
    exact hR.trans hacc (hR.cpu ht.sameButCpu)
  | plain ht => exact hR.cpu ht.sameButCpu
  | branch =>
    split
    · exact hR.cpu rfl
    · exact hR.refl s
  | jmp => exact hR.cpu rfl
  | jmpInd _ hr => exact hR.trans (hR.readPointer hr) (hR.cpu rfl)
  | jsr _ hp => exact hR.trans (hR.push16 hp) (hR.cpu rfl)
  | rts _ hp => exact hR.trans (hR.pull16 hp) (hR.cpu rfl)
  | rti _ hr => exact hR.returnFromInterrupt hr
  | pha _ hp => exact hR.push hp
  | php _ hp => exact hR.push hp
  | pla _ hp => exact hR.trans (hR.pull hp) (hR.cpu rfl)
  | plp _ hp => exact hR.trans (hR.pull hp) (hR.cpu rfl)

theorem fetch {b : Byte} {s t : State} (h : fetch s = .ok b t) : R s t := by
  obtain ⟨_, hread, _, rfl⟩ := fetch_eq_ok h
  exact hR.trans (hR.read hread) (hR.cpu rfl)

theorem fetchInstr {i : Instr} {s t : State} (h : fetchInstr s = .ok i t) : R s t := by
  obtain ⟨op, s1, h1, h⟩ := Access.andThen_eq_ok.mp h
  refine hR.trans (hR.fetch h1) ?_
  cases hrow : dispatch op with
  | none => simp only [hrow, reduceCtorEq] at h
  | some row =>
    simp only [hrow] at h
    cases row with
    | bare =>
      cases h
      exact hR.refl _
    | word =>
      obtain ⟨_, s2, h2, h⟩ := Access.andThen_eq_ok.mp h
      obtain ⟨_, s3, h3, h⟩ := Access.andThen_eq_ok.mp h
      cases h
      exact hR.trans (hR.fetch h2) (hR.fetch h3)
    | _ =>
      obtain ⟨_, s2, h2, h⟩ := Access.andThen_eq_ok.mp h
      cases h
      exact hR.fetch h2

theorem clocks (n : Nat) (s : State) : R s (ppuSteps n s) := by
  induction n generalizing s with
  | zero => exact hR.refl s
  | succ n ih => exact hR.trans (hR.clock s) (ih (ppuStep s))

theorem step {s t : State} (h : step s = .next t) : R s t := by
  obtain ⟨_, i, s1, s2, hf, he, ⟨n, _, rfl⟩ | ⟨_, rfl⟩⟩ := step_eq_next h
  · exact hR.trans (hR.fetchInstr hf) (hR.trans (hR.exec he) (hR.clocks _ s2))
  · exact hR.trans (hR.fetchInstr hf) (hR.exec he)

end StepRelation

end Sys2Proof.Machine
end

section
/-! PROOFS. The status flags by `VBLANK_POLICY` (50_ppu.md R328): under `none` keeping them is a step relation; under
`standard` a clock and a read of 0x2002 do what R328 says. From these O33. -/

namespace Sys2Proof.Machine

/-! Under `none` (R328). -/

/-- The launch parameters are kept, and under `VBLANK_POLICY = none` the status flags. -/
def KeepsStatus (s t : State) : Prop := t.cfg = s.cfg ∧ (s.cfg.vblank = .off → t.ppu.status = s.ppu.status)

theorem KeepsStatus.trans {s t u : State} (h : KeepsStatus s t) (h' : KeepsStatus t u) : KeepsStatus s u := by
  obtain ⟨hcfg, hstatus⟩ := h
  obtain ⟨hcfg', hstatus'⟩ := h'
  exact ⟨hcfg'.trans hcfg, fun hoff => (hstatus' (hcfg ▸ hoff)).trans (hstatus hoff)⟩

theorem writeCell_status {r : Region} {i : Nat} {v : Byte} {s t : State} (h : writeCell r i v s = .ok () t) :
    t.ppu.status = s.ppu.status := by
  obtain ⟨_, m, _, rfl⟩ := writeCell_eq_ok.mp h
  cases r <;> rfl

theorem readWriteOnly_status {addr : Word} {v : Byte} {s t : State} (h : readWriteOnly addr s = .ok v t) :
    t.ppu.status = s.ppu.status := by
  unfold readWriteOnly at h
  split at h <;> cases h
  rfl

theorem readData_status {v : Byte} {s t : State} (h : readData s = .ok v t) : t.ppu.status = s.ppu.status := by
  rcases readData_cases s with ⟨_, hread⟩ | ⟨_, _, hread⟩
  · cases hread ▸ h
  · cases hread ▸ h
    rfl

theorem writeData_status {v : Byte} {s t : State} (h : writeData v s = .ok () t) : t.ppu.status = s.ppu.status := by
  rcases writeData_cases v s with ⟨_, hwrite⟩ | ⟨_, _, hwrite⟩
  · cases hwrite ▸ h
  · cases hwrite ▸ h
    rfl

theorem writeStatus_status {s t : State} (h : writeStatus s = .ok () t) : t.ppu.status = s.ppu.status := by
  unfold writeStatus at h
  split at h <;> cases h
  rfl

theorem writeBank_status {addr : Word} {r : Region} {i : Nat} {v : Byte} {s t : State}
    (h : writeBank addr r i v s = .ok () t) : t.ppu.status = s.ppu.status := by
  unfold writeBank at h
  split at h
  · exact writeCell_status h
  · cases h
    rfl
  · cases h

/-- Of the reads only that of 0x2002 touches a flag, and not under `none`. -/
theorem readRegister_status_of_off {addr : Word} {v : Byte} {s t : State} (hoff : s.cfg.vblank = .off)
    (ha : addr ∈ ppuRegisterAddrs) (h : readRegister addr s = .ok v t) : t.ppu.status = s.ppu.status := by
  obtain ⟨_, hplain⟩ | rfl | rfl | rfl | rfl := readRegister_cases ha s
  · cases hplain ▸ h
    rfl
  · cases (readRegister_status s).trans (readStatus_eq s) ▸ h
    simp only [hoff, if_true]
  · exact readWriteOnly_status h
  · exact readWriteOnly_status h
  · exact readData_status h

theorem writeRegister_keepsStatus {addr : Word} {v w : Byte} {s t : State} (ha : addr ∈ ppuRegisterAddrs)
    (h : writeRegister addr v s = .ok w t) : t.ppu.status = s.ppu.status := by
  obtain ⟨_, hplain, hstatus⟩ | rfl | rfl := writeRegister_cases ha v s
  · cases hplain ▸ h
    exact hstatus
  · obtain ⟨_, s1, h1, h⟩ := Access.andThen_eq_ok.mp h
    cases h
    exact writeStatus_status h1
  · obtain ⟨_, s1, h1, h⟩ := Access.andThen_eq_ok.mp h
    cases h
    exact writeData_status h1

theorem busRead_status_of_off {addr : Word} {v : Byte} {s t : State} (hoff : s.cfg.vblank = .off)
    (h : busRead addr s = .ok v t) : t.ppu.status = s.ppu.status := by
  cases hc : cpuTarget addr with
  | cell r i => exact (busRead_cell hc h).1 ▸ rfl
  | ppuRegister reg =>
    exact readRegister_status_of_off hoff (mem_ppuRegisterAddrs_of_cpuTarget hc) (busRead_of_register s hc ▸ h)

theorem busWrite_status {addr : Word} {v : Byte} {s t : State} (h : busWrite addr v s = .ok () t) :
    t.ppu.status = s.ppu.status := by
  cases hc : cpuTarget addr with
  | cell r i =>
    rcases busWrite_cell_cases v s hc with ⟨_, hw⟩ | hw
    · exact writeBank_status (hw ▸ h)
    · exact writeCell_status (hw ▸ h)
  | ppuRegister reg =>
    obtain ⟨_, s1, h1, h⟩ := Access.andThen_eq_ok.mp (busWrite_of_register v s hc ▸ h)
    cases h
    exact writeRegister_keepsStatus (mem_ppuRegisterAddrs_of_cpuTarget hc) h1

theorem keepsStatus_stepRelation : StepRelation KeepsStatus where
  trans := KeepsStatus.trans
  read h := ⟨(busRead_effect h).keepsCpu.cfg, fun hoff => busRead_status_of_off hoff h⟩
  write h := ⟨(busWrite_keepsCpu h).cfg, fun _ => busWrite_status h⟩
  cpu h := h ▸ ⟨rfl, fun _ => rfl⟩
  clock s := ⟨rfl, fun hoff => by simp only [ppuStep, hoff, nextStatus]⟩

/-! Under `standard` (R328). -/

theorem ppuStep_status_standard {s : State} (h : s.cfg.vblank = .standard) : (ppuStep s).ppu.status =
    if s.ppu.scanline = 241 ∧ s.ppu.cycle = 0 then { s.ppu.status with vblank := true }
    else if s.ppu.scanline = 261 ∧ s.ppu.cycle = 0 then ⟨false, false, false⟩
    else s.ppu.status := by
  simp only [ppuStep, h, nextStatus]

theorem readRegister_status_standard {s t : State} {b : Byte} (h : s.cfg.vblank = .standard)
    (hread : readRegister 0x2002#16 s = .ok b t) :
    b.getLsbD 7 = s.ppu.status.vblank ∧ t.ppu.status = { s.ppu.status with vblank := false } := by
  cases (readRegister_status s).trans (readStatus_eq s) ▸ hread
  refine ⟨PpuStatus.pack_getLsbD_seven _, ?_⟩
  simp only [h, reduceCtorEq, if_false]

/-! The obligation. -/

/-- Settles O33: under `none` by the step relation; under `standard` by the position of the clock and the read. -/
theorem statusFlagsByPolicy : Obligations.StatusFlagsByPolicy := by
  refine ⟨fun s t hoff h => ?off, rfl, fun s h => ?cleared, fun s h => ⟨fun hl hc => ?set, fun hl hc => ?clear,
    fun hne => ?keep⟩, fun s t b h hread => readRegister_status_standard h hread⟩
  case off =>
    obtain ⟨_, hstatus⟩ := keepsStatus_stepRelation.step h
    exact hstatus hoff
  case cleared =>
    rw [readRegister_status, readStatus_eq, h]
    exact ⟨_, rfl⟩
  case set => rw [ppuStep_status_standard h, if_pos ⟨hl, hc⟩]
  case clear => rw [ppuStep_status_standard h, if_neg (by omega), if_pos ⟨hl, hc⟩]
  case keep => rw [ppuStep_status_standard h, if_neg (by omega), if_neg (by omega)]

end Sys2Proof.Machine
end

section
/-! PROOFS. Decoder and encoder as inverses (30_encoding.md R100 to R107): the slot of an instruction's opcode byte
makes the instruction back from its operand bytes, and what a slot makes is well formed. From these O9 to O11. -/

namespace Sys2Proof

/-! The operand bytes, read back (R102, R144). -/

theorem wordOf_hiByte_loByte (w : Word) : wordOf (hiByte w) (loByte w) = w := Machine.hiByte_append_loByte w

theorem sext8_ofInt {d : Int} (h : -128 ≤ d ∧ d ≤ 127) : sext8 (BitVec.ofInt 8 d) = d :=
  BitVec.toInt_ofInt_eq_self (by decide) h.1 (Int.lt_add_one_of_le h.2)

theorem sext8_bounds (b : Byte) : -128 ≤ sext8 b ∧ sext8 b ≤ 127 :=
  ⟨BitVec.le_toInt b, Int.le_of_lt_add_one BitVec.toInt_lt⟩

/-! The slot of an instruction. -/

/-- The encoder's opcode column and the decoder's grid agree in every row (R104 to R106). -/
theorem ownRow (i : Instr) : Laws.OwnRow.Statement i := by
  cases i with
  | hlt | php | aslAcc | clc | nop1A | plp | rolAcc | sec | nop3A | rti | pha | lsrAcc | cli | nop5A | rts | pla
  | rorAcc | sei | nop7A | dey | txa | tya | txs | tay | tax | clv | tsx | iny | dex | cld | nopDA | inx | nop | sed
  | nopFA => rfl
  | _ =>
    refine ⟨_, ?_, rfl⟩
    dsimp only [Instr.opcode]
    rfl

/-- Decoding takes an instruction's operand bytes through its own slot. -/
theorem decode_encode {i : Instr} (hi : i.wf = true) (rest : List Byte) :
    decode (encode i ++ rest) = .ok (i, rest) := by
  have hrow := ownRow i
  unfold Laws.OwnRow.Statement at hrow
  unfold Instr.wf at hi
  unfold encode
  generalize i.operand = operand at hi hrow ⊢
  split at hrow
  case h_1 | h_2 => simp only [Operand.bytes, List.cons_append, List.nil_append, decode, hrow]
  case h_13 =>
    obtain ⟨make, hmake, rfl⟩ := hrow
    simp only [Operand.bytes, List.cons_append, List.nil_append, decode, hmake, sext8_ofInt (of_decide_eq_true hi)]
  all_goals
    obtain ⟨make, hmake, rfl⟩ := hrow
    simp only [Operand.bytes, MemMode.bytes, List.cons_append, List.nil_append, decode, hmake, wordOf_hiByte_loByte]

/-! What a slot makes. -/

/-- What a slot makes is well formed, a branch if its offset is in range (R107, R109, R144). -/
def SlotMakesWf : Option OpcodeRow → Prop
  | none => True
  | some (.bare i) => i.wf = true
  | some (.byte make) => ∀ b, (make b).wf = true
  | some (.word make) => ∀ w, (make w).wf = true
  | some (.offset make) => ∀ d, (make d).operand = .rel d

theorem dispatchTable_makesWf : dispatchTable.Forall (List.Forall SlotMakesWf) := by
  repeat' constructor
  all_goals exact fun _ => rfl

theorem dispatch_makesWf {op : Byte} {slot : Option OpcodeRow} (h : dispatch op = slot) : SlotMakesWf slot := by
  subst h
  unfold dispatch gridEntry
  split
  next slot hslot =>
    split at hslot
    next slots hslots =>
      have hrow := List.forall_iff_forall_mem.mp dispatchTable_makesWf slots (List.mem_of_getElem? hslots)
      exact List.forall_iff_forall_mem.mp hrow slot (List.mem_of_getElem? hslot)
    next => cases hslot
  next => exact trivial

theorem wf_of_decode {bytes rest : List Byte} {i : Instr} (h : decode bytes = .ok (i, rest)) : i.wf = true := by
  unfold decode at h
  split at h
  next => cases h
  next op bytes =>
    split at h <;> cases h
    next hd => exact dispatch_makesWf hd
    next hd => exact dispatch_makesWf hd _
    next hd => exact dispatch_makesWf hd _
    next b hd =>
      rw [Instr.wf, dispatch_makesWf hd (sext8 b)]
      exact decide_eq_true (sext8_bounds b)

end Sys2Proof

namespace Sys2Proof.Machine

/-! The obligations. -/

/-- Settles O10: the slot of the opcode byte takes the operand bytes back to the instruction. -/
theorem decodeAfterEncode : Obligations.DecodeAfterEncode := fun _ rest hi => decode_encode hi rest

/-- Settles O11: a slot makes well-formed instructions, and they encode to the bytes that it took. -/
theorem encodeAfterDecode : Obligations.EncodeAfterDecode := fun _ _ _ h => ⟨wf_of_decode h, decode_eq_ok h⟩

/-- Settles O9: the words through the dispatch table. -/
theorem specWordsDecode : Obligations.SpecWordsDecode :=
  ⟨rfl, rfl, rfl, rfl, rfl, rfl, rfl, rfl, rfl, rfl, rfl, rfl, rfl, rfl, rfl, rfl, rfl, rfl⟩

end Sys2Proof.Machine
end

section
/-! PROOFS. What every step keeps: the invariant (20_memory.md section 1, 10_state.md section 3), the launch parameters
and the shape of the bank slots (20_memory.md R71), each a step relation. From these O13 and O14. -/

namespace Sys2Proof.Machine

/-! The invariant. -/

/-- What changes the Cpu alone keeps the invariant. -/
theorem SameButCpu.wf {s t : State} (h : SameButCpu s t) (hs : s.wf = true) : t.wf = true :=
  State.wf_of_same hs (h ▸ rfl) (h ▸ rfl) (h ▸ rfl) (h ▸ rfl) (h ▸ rfl) (h ▸ rfl)

theorem wf_stepRelation : StepRelation fun s t => s.wf = true → t.wf = true where
  trans h h' hs := h' (h hs)
  read h hs := (busRead_effect h).wf hs
  write h hs := busWrite_wf hs h
  cpu h hs := h.wf hs
  clock _ hs := ppuStep_wf hs

/-! The launch parameters and the bank slots. -/

/-- The shape of the bank slots: the same bank contents with every byte forgotten. -/
def Prg.shape : Prg → Prg
  | .unloaded => .unloaded
  | .shared _ => .shared []
  | .split _ _ => .split [] []

theorem State.setMem_shape {s : State} {r : Region} {m : Memory} (h : s.memOf r = some m) (m' : Memory) :
    (s.setMem r m').prg.shape = s.prg.shape := by
  cases r
  case prg1 | prg2 =>
    simp only [State.memOf, State.setMem] at h ⊢
    cases hp : s.prg with
    | unloaded => rw [hp] at h; cases h
    | _ => rfl
  all_goals rfl

/-- A register write changes the Ppu only, and the memories behind it only at 0x2004 and 0x2007 (20_memory.md R65,
50_ppu.md R310, R317). -/
theorem writeRegister_frame {reg : Word} {v w : Byte} {s t : State} (h : writeRegister reg v s = .ok w t) :
    t = { s with ppu := t.ppu } ∧
      (reg = 0x2004#16 ∨ reg = 0x2007#16 ∨
        (t.ppu.oam = s.ppu.oam ∧ t.ppu.nt = s.ppu.nt ∧ t.ppu.pal = s.ppu.pal)) := by
  by_cases hreg : reg ∈ ppuRegisterAddrs
  case neg =>
    rw [writeRegister_of_notMem v s hreg] at h
    cases h
  simp only [ppuRegisterAddrs, List.mem_cons, List.not_mem_nil, or_false] at hreg
  obtain rfl | rfl | rfl | rfl | rfl | rfl | rfl | rfl | rfl := hreg
  case inr.inr.inl =>
    obtain ⟨_, s1, h1, h⟩ := Access.andThen_eq_ok.mp h
    cases h
    unfold writeStatus at h1
    split at h1 <;> cases h1
    exact ⟨rfl, .inr (.inr ⟨rfl, rfl, rfl⟩)⟩
  case inr.inr.inr.inr.inl =>
    rw [writeRegister_oamData] at h
    cases h
    exact ⟨rfl, .inl rfl⟩
  case inr.inr.inr.inr.inr.inr.inr.inl =>
    obtain ⟨_, s1, h1, h⟩ := Access.andThen_eq_ok.mp h
    cases h
    rcases writeData_cases v s with ⟨_, hwrite⟩ | ⟨_, _, hwrite⟩
    · cases hwrite ▸ h1
    · cases hwrite ▸ h1
      exact ⟨rfl, .inr (.inl rfl)⟩
  all_goals
    simp only [writeRegister_ctrl, writeRegister_mask, writeRegister_oamAddr, writeRegister_scroll, writeRegister_addr,
      writeRegister_oamDma] at h
    cases h
    exact ⟨rfl, .inr (.inr ⟨rfl, rfl, rfl⟩)⟩

/-- What a CpuBus write can do: nothing at a bank under `ignore`, one byte of a region, or a write of a register
(20_memory.md R63, R65, R72). -/
inductive BusWritten (addr : Word) (v : Byte) (s : State) : State → Prop where
  | ignored {r : Region} {i : Nat} (hc : cpuTarget addr = .cell r i) (hr : r = .prg1 ∨ r = .prg2)
      (hp : s.cfg.prgWrite = .ignore) : BusWritten addr v s s
  | stored {r : Region} {i : Nat} {m : Memory} (hc : cpuTarget addr = .cell r i)
      (hp : r = .prg1 ∨ r = .prg2 → s.cfg.prgWrite = .store) (hm : s.memOf r = some m) :
      BusWritten addr v s (s.setMem r (m.write i v))
  | register {reg : Word} {w : Byte} {t : State} (hc : cpuTarget addr = .ppuRegister reg)
      (hw : writeRegister reg v s = .ok w t) : BusWritten addr v s t

theorem busWrite_written {addr : Word} {v : Byte} {s t : State} (h : busWrite addr v s = .ok () t) :
    BusWritten addr v s t := by
  cases hc : cpuTarget addr with
  | cell r i =>
    by_cases hr : r = .prg1 ∨ r = .prg2
    · rw [busWrite_of_bank v s hc hr, writeBank] at h
      split at h
      next hp =>
        obtain ⟨_, m, hm, rfl⟩ := writeCell_eq_ok.mp h
        exact .stored hc (fun _ => hp) hm
      next hp =>
        cases h
        exact .ignored hc hr hp
      next => cases h
    · obtain ⟨hbank, _⟩ | hw := busWrite_cell_cases v s hc
      · exact absurd hbank hr
      · obtain ⟨_, m, hm, rfl⟩ := writeCell_eq_ok.mp (hw ▸ h)
        exact .stored hc (fun hbank => absurd hbank hr) hm
  | ppuRegister reg =>
    obtain ⟨w, s1, h1, h⟩ := Access.andThen_eq_ok.mp (busWrite_of_register v s hc ▸ h)
    cases h
    exact .register hc h1

theorem busWrite_shape {addr : Word} {v : Byte} {s t : State} (h : busWrite addr v s = .ok () t) :
    t.prg.shape = s.prg.shape := by
  cases busWrite_written h with
  | ignored => rfl
  | stored _ _ hm => exact State.setMem_shape hm _
  | register _ hw =>
    obtain ⟨ht, _⟩ := writeRegister_frame hw
    rw [ht]

theorem ReadEffect.prg {s t : State} (h : ReadEffect s t) : t.prg = s.prg := by
  obtain ⟨_, _, _, _, _, rfl⟩ := h
  rfl

theorem parametersAndBankShape_stepRelation :
    StepRelation fun s t => t.cfg = s.cfg ∧ t.prg.shape = s.prg.shape where
  trans := fun ⟨hcfg, hshape⟩ ⟨hcfg', hshape'⟩ => ⟨hcfg'.trans hcfg, hshape'.trans hshape⟩
  read h := ⟨(busRead_effect h).keepsCpu.cfg, congrArg Prg.shape (busRead_effect h).prg⟩
  write h := ⟨(busWrite_keepsCpu h).cfg, busWrite_shape h⟩
  cpu h := h ▸ ⟨rfl, rfl⟩
  clock _ := ⟨rfl, rfl⟩

/-! The obligations. -/

/-- Settles O13: keeping the invariant is a step relation. -/
theorem stepKeepsTheInvariant : Obligations.StepKeepsTheInvariant := fun _ _ hs h => wf_stepRelation.step h hs

/-- Settles O14: keeping the parameters and the shape of the banks is a step relation. -/
theorem stepKeepsParametersAndBankShape : Obligations.StepKeepsParametersAndBankShape := by
  intro s t h
  obtain ⟨hcfg, hshape⟩ := parametersAndBankShape_stepRelation.step h
  refine ⟨hcfg, fun hs => ?unloaded, fun m hs => ?shared, fun m1 m2 hs => ?split⟩
  all_goals
    rw [hs] at hshape
    cases ht : t.prg <;> cases ht ▸ hshape
  case unloaded => rfl
  case shared m' => exact ⟨m', rfl⟩
  case split m1' m2' => exact ⟨m1', m2', rfl⟩

end Sys2Proof.Machine
end

section
/-! PROOFS. The accesses of the CpuBus: when one completes and with which fault it does not, what a read changes, where
a written byte is found again (20_memory.md sections 1, 2, 4, 5; 50_ppu.md section 1; 60_exceptions.md section 1). From
these O24 to O26 and O32. -/

namespace Sys2Proof.Machine

/-! Completion and faults (60_exceptions.md R373, R374, R376; 20_memory.md R72). -/

theorem Prg.bank1_eq_none {p : Prg} : p.bank1 = none ↔ p = .unloaded := by
  cases p <;> simp [Prg.bank1]

theorem Prg.bank2_eq_none {p : Prg} : p.bank2 = none ↔ p = .unloaded := by
  cases p <;> simp [Prg.bank2]

theorem canRead_cell {addr : Word} {r : Region} {i : Nat} {s : State} (hc : cpuTarget addr = .cell r i) :
    CanRead addr s ↔ s.memOf r ≠ none := by
  unfold CanRead
  rw [hc]
  cases r
  case prg1 => exact not_congr Prg.bank1_eq_none.symm
  case prg2 => exact not_congr Prg.bank2_eq_none.symm
  all_goals simp [State.memOf]

theorem canRead_register {addr reg : Word} {s : State} (hc : cpuTarget addr = .ppuRegister reg) :
    CanRead addr s ↔ ¬ (s.cfg.regAccess = .strict ∧ (reg = 0x2005#16 ∨ reg = 0x2006#16)) ∧
      ¬ (reg = 0x2007#16 ∧ dataAddr s < 0x2000) := by
  unfold CanRead
  rw [hc]
  rfl

theorem readFault_register {addr reg : Word} (s : State) (hc : cpuTarget addr = .ppuRegister reg) :
    readFault addr s =
      if reg = 0x2007#16 then .ppuBusUnmapped (vramAddress s) else .writeOnlyRegisterRead reg := by
  simp only [readFault, hc]
  rfl

theorem readRegister_completes {reg : Word} {s : State} (hreg : reg ∈ ppuRegisterAddrs)
    (hwo : ¬ (s.cfg.regAccess = .strict ∧ (reg = 0x2005#16 ∨ reg = 0x2006#16)))
    (hlow : ¬ (reg = 0x2007#16 ∧ dataAddr s < 0x2000)) : ∃ v t, readRegister reg s = .ok v t := by
  have hfree (reg : Word) (hacc : s.cfg.regAccess ≠ .strict) : ∃ v t, readWriteOnly reg s = .ok v t := by
    unfold readWriteOnly
    cases ha : s.cfg.regAccess with
    | strict => exact absurd ha hacc
    | permissive => exact ⟨_, _, rfl⟩
  obtain ⟨v, hplain⟩ | rfl | rfl | rfl | rfl := readRegister_cases hreg s
  · exact ⟨v, s, hplain⟩
  · exact ⟨_, _, readStatus_eq s⟩
  · exact hfree _ fun ha => hwo ⟨ha, .inl rfl⟩
  · exact hfree _ fun ha => hwo ⟨ha, .inr rfl⟩
  · obtain ⟨hl, _⟩ | ⟨v, _, hread⟩ := readData_cases s
    · exact absurd ⟨rfl, hl⟩ hlow
    · exact ⟨v, _, hread⟩

theorem readWriteOnly_of_strict {reg : Word} {s : State} (h : s.cfg.regAccess = .strict) :
    readWriteOnly reg s = .fault (.writeOnlyRegisterRead reg) := by
  simp only [readWriteOnly, h]

/-- A read completes where it may; else its fault is the one its address calls for. -/
theorem busRead_decided (addr : Word) (s : State) :
    (CanRead addr s ∧ ∃ v t, busRead addr s = .ok v t) ∨
      (¬ CanRead addr s ∧ busRead addr s = .fault (readFault addr s)) := by
  cases hc : cpuTarget addr with
  | cell r i =>
    rw [canRead_cell hc]
    cases hm : s.memOf r with
    | some m => exact .inl ⟨Option.some_ne_none m, _, _, busRead_of_cell hc (lt_size_of_cpuTarget hc) hm⟩
    | none =>
      refine .inr ⟨not_not_intro rfl, ?_⟩
      simp only [busRead, hc, readCell, if_pos (lt_size_of_cpuTarget hc), hm, readFault]
  | ppuRegister reg =>
    rw [canRead_register hc, busRead_of_register s hc, readFault_register s hc]
    by_cases hwo : s.cfg.regAccess = .strict ∧ (reg = 0x2005#16 ∨ reg = 0x2006#16)
    case pos =>
      refine .inr ⟨fun h => h.1 hwo, ?_⟩
      obtain ⟨hacc, rfl | rfl⟩ := hwo <;> exact readWriteOnly_of_strict hacc
    by_cases hlow : reg = 0x2007#16 ∧ dataAddr s < 0x2000
    case pos =>
      refine .inr ⟨fun h => h.2 hlow, ?_⟩
      obtain ⟨rfl, hlow⟩ := hlow
      exact readData_of_unmapped hlow
    exact .inl ⟨⟨hwo, hlow⟩, readRegister_completes (mem_ppuRegisterAddrs_of_cpuTarget hc) hwo hlow⟩

theorem canWrite_cell {addr : Word} {r : Region} {i : Nat} {s : State} (hc : cpuTarget addr = .cell r i) :
    CanWrite addr s ↔
      (r = .prg1 ∨ r = .prg2 → s.cfg.prgWrite = .ignore ∨ (s.cfg.prgWrite = .store ∧ s.memOf r ≠ none)) := by
  unfold CanWrite
  rw [hc]
  cases r
  case prg1 => simp [State.memOf, Prg.bank1_eq_none]
  case prg2 => simp [State.memOf, Prg.bank2_eq_none]
  all_goals simp

theorem canWrite_register {addr reg : Word} {s : State} (hc : cpuTarget addr = .ppuRegister reg) :
    CanWrite addr s ↔ ¬ (s.cfg.regAccess = .strict ∧ reg = 0x2002#16) ∧
      ¬ (reg = 0x2007#16 ∧ dataAddr s < 0x2000) := by
  unfold CanWrite
  rw [hc]
  rfl

theorem writeFault_register {addr reg : Word} (s : State) (hc : cpuTarget addr = .ppuRegister reg) :
    writeFault addr s =
      if reg = 0x2007#16 then .ppuBusUnmapped (vramAddress s) else .readOnlyRegisterWrite reg := by
  simp only [writeFault, hc]
  rfl

theorem writeRegister_completes {reg : Word} (v : Byte) {s : State} (hreg : reg ∈ ppuRegisterAddrs)
    (hro : ¬ (s.cfg.regAccess = .strict ∧ reg = 0x2002#16))
    (hlow : ¬ (reg = 0x2007#16 ∧ dataAddr s < 0x2000)) : ∃ t, writeRegister reg v s = .ok v t := by
  obtain ⟨t, hplain, _⟩ | rfl | rfl := writeRegister_cases hreg v s
  · exact ⟨t, hplain⟩
  · rw [writeRegister_status, writeStatus]
    cases ha : s.cfg.regAccess with
    | strict => exact absurd ⟨ha, rfl⟩ hro
    | permissive => exact ⟨s, rfl⟩
  · rw [writeRegister_data]
    obtain ⟨hl, _⟩ | ⟨_, _, hwrite⟩ := writeData_cases v s
    · exact absurd ⟨rfl, hl⟩ hlow
    · rw [hwrite]
      exact ⟨_, rfl⟩

/-- A write of a register fails where it may not complete, with the fault that its address calls for. -/
theorem writeRegister_faults {reg : Word} (v : Byte) {s : State}
    (h : (s.cfg.regAccess = .strict ∧ reg = 0x2002#16) ∨ (reg = 0x2007#16 ∧ dataAddr s < 0x2000)) :
    writeRegister reg v s =
      .fault (if reg = 0x2007#16 then .ppuBusUnmapped (vramAddress s) else .readOnlyRegisterWrite reg) := by
  obtain ⟨hacc, rfl⟩ | ⟨rfl, hlow⟩ := h
  · rw [writeRegister_status, writeStatus, hacc]
    rfl
  · rw [writeRegister_data, writeData_of_unmapped v hlow]
    rfl

/-- A write of a cell completes where it may; else its fault is the one its address calls for. -/
theorem busWrite_decided_cell {addr : Word} {r : Region} {i : Nat} (v : Byte) {s : State}
    (hc : cpuTarget addr = .cell r i) :
    (CanWrite addr s ∧ ∃ t, busWrite addr v s = .ok () t) ∨
      (¬ CanWrite addr s ∧ busWrite addr v s = .fault (writeFault addr s)) := by
  rw [canWrite_cell hc]
  have hi := lt_size_of_cpuTarget hc
  by_cases hr : r = .prg1 ∨ r = .prg2
  case neg =>
    obtain ⟨m, hm⟩ := Option.ne_none_iff_exists'.mp (mt State.memOf_eq_none hr : s.memOf r ≠ none)
    exact .inl ⟨fun hbank => absurd hbank hr, _, busWrite_of_cell v hc (hr ∘ .inl) (hr ∘ .inr) hi hm⟩
  rw [busWrite_of_bank v s hc hr, writeBank, writeFault, hc]
  cases hp : s.cfg.prgWrite with
  | ignore => exact .inl ⟨fun _ => .inl rfl, _, rfl⟩
  | fault => exact .inr ⟨fun h => by simpa using h hr, rfl⟩
  | store =>
    cases hm : s.memOf r with
    | some m => exact .inl ⟨fun _ => .inr ⟨rfl, Option.some_ne_none m⟩, _, writeCell_of_memOf v hi hm⟩
    | none =>
      refine .inr ⟨fun h => by simpa using h hr, ?_⟩
      simp only [writeCell, if_pos hi, hm]
      rfl

/-- A write completes where it may; else its fault is the one its address calls for. -/
theorem busWrite_decided (addr : Word) (v : Byte) (s : State) :
    (CanWrite addr s ∧ ∃ t, busWrite addr v s = .ok () t) ∨
      (¬ CanWrite addr s ∧ busWrite addr v s = .fault (writeFault addr s)) := by
  cases hc : cpuTarget addr with
  | cell r i => exact busWrite_decided_cell v hc
  | ppuRegister reg =>
    rw [canWrite_register hc, busWrite_of_register v s hc, writeFault_register s hc]
    by_cases hfault : (s.cfg.regAccess = .strict ∧ reg = 0x2002#16) ∨ (reg = 0x2007#16 ∧ dataAddr s < 0x2000)
    · refine .inr ⟨fun h => hfault.elim h.1 h.2, ?_⟩
      rw [writeRegister_faults v hfault, Access.andThen_fault]
    · obtain ⟨hro, hlow⟩ := not_or.mp hfault
      obtain ⟨t, hwrite⟩ := writeRegister_completes v (mem_ppuRegisterAddrs_of_cpuTarget hc) hro hlow
      rw [hwrite]
      exact .inl ⟨⟨hro, hlow⟩, t, rfl⟩

theorem busRead_of_canRead {addr : Word} {s : State} (h : CanRead addr s) : ∃ v t, busRead addr s = .ok v t :=
  (busRead_decided addr s).elim (fun hread => hread.2) fun hread => absurd h hread.1

theorem busRead_of_not_canRead {addr : Word} {s : State} (h : ¬ CanRead addr s) :
    busRead addr s = .fault (readFault addr s) :=
  (busRead_decided addr s).elim (fun hread => absurd hread.1 h) fun hread => hread.2

theorem busWrite_of_canWrite {addr : Word} (v : Byte) {s : State} (h : CanWrite addr s) :
    ∃ t, busWrite addr v s = .ok () t :=
  (busWrite_decided addr v s).elim (fun hwrite => hwrite.2) fun hwrite => absurd h hwrite.1

theorem busWrite_of_not_canWrite {addr : Word} (v : Byte) {s : State} (h : ¬ CanWrite addr s) :
    busWrite addr v s = .fault (writeFault addr s) :=
  (busWrite_decided addr v s).elim (fun hwrite => absurd hwrite.1 h) fun hwrite => hwrite.2

/-! Where a written byte is found (20_memory.md sections 1, 2). -/

/-- The region whose buffer is the region's: both slots of a 16 KB image are one buffer, kept as slot 1's (R71). -/
def Prg.home : Prg → Region → Region
  | .split _ _, r => r
  | _, .prg2 => .prg1
  | _, r => r

theorem cellAt_cell {addr : Word} {r : Region} {i : Nat} (s : State) (hc : cpuTarget addr = .cell r i) :
    cellAt addr s = some (s.prg.home r, i) := by
  unfold cellAt
  rw [hc]
  cases s.prg <;> cases r <;> simp [Prg.home]

theorem cellAt_register {addr reg : Word} (s : State) (hc : cpuTarget addr = .ppuRegister reg) :
    cellAt addr s = none := by
  simp only [cellAt, hc]

theorem peek_cell {addr : Word} {r : Region} {i : Nat} (s : State) (hc : cpuTarget addr = .cell r i) :
    peek addr s = (s.memOf r).map fun m => m.read i := by
  simp only [peek, hc]

theorem peek_register {addr reg : Word} (s : State) (hc : cpuTarget addr = .ppuRegister reg) :
    peek addr s = none := by
  simp only [peek, hc]

theorem Prg.home_bank (p : Prg) (r : Region) :
    (p.home r = .prg1 ∨ p.home r = .prg2) ↔ (r = .prg1 ∨ r = .prg2) := by
  cases p <;> cases r <;> simp [Prg.home]

/-- Regions with one buffer hold the same bytes. -/
theorem State.memOf_of_home_eq {s : State} {r r' : Region} (h : s.prg.home r' = s.prg.home r) :
    s.memOf r' = s.memOf r := by
  cases hp : s.prg <;> cases r <;> cases r' <;> simp_all [Prg.home, State.memOf, Prg.bank1, Prg.bank2]

/-- The buffer of a region replaced is seen in every region that has this buffer. -/
theorem State.memOf_setMem_of_home_eq {s : State} {r r' : Region} (m : Memory)
    (h : s.prg.home r' = s.prg.home r) : (s.setMem r m).memOf r' = some m := by
  cases hp : s.prg <;> cases r <;> cases r' <;>
    simp_all [Prg.home, State.memOf, State.setMem, Prg.bank1, Prg.bank2, Prg.setBank1, Prg.setBank2]

theorem State.memOf_setMem_of_home_ne {s : State} {r r' : Region} (m : Memory)
    (h : s.prg.home r' ≠ s.prg.home r) : (s.setMem r m).memOf r' = s.memOf r' := by
  cases hp : s.prg <;> cases r <;> cases r' <;>
    simp_all [Prg.home, State.memOf, State.setMem, Prg.bank1, Prg.bank2, Prg.setBank1, Prg.setBank2]

theorem State.wf_memOf {s : State} {r : Region} {m : Memory} (hs : s.wf = true) (hm : s.memOf r = some m) :
    m.wf r.size = true := by
  rw [State.wf_iff] at hs
  obtain ⟨hwram, hioreg, hsram, hprg, hoam, hnt, hpal, _⟩ := hs
  cases r <;> simp only [State.memOf, Option.some.injEq] at hm
  case wram => exact hm ▸ hwram
  case ioreg => exact hm ▸ hioreg
  case sram => exact hm ▸ hsram
  case oam => exact hm ▸ hoam
  case nt => exact hm ▸ hnt
  case pal => exact hm ▸ hpal
  all_goals
    cases hp : s.prg <;> rw [hp] at hm hprg <;> cases hm
    next => exact hprg
    next =>
      obtain ⟨hprg1, hprg2⟩ := (Bool.and_eq_true _ _).mp hprg
      assumption

/-- A byte stored to a cell is found at each of its mirrors, and every other byte is as before. -/
theorem peek_setMem {addr b : Word} {r : Region} {i : Nat} {v : Byte} {m : Memory} {s : State} (hs : s.wf = true)
    (hc : cpuTarget addr = .cell r i) (hm : s.memOf r = some m) :
    peek b (s.setMem r (m.write i v)) = if cellAt b s = cellAt addr s then some v else peek b s := by
  rw [cellAt_cell s hc]
  cases hb : cpuTarget b with
  | ppuRegister reg => simp only [peek_register _ hb, cellAt_register s hb, reduceCtorEq, if_false]
  | cell r' j =>
    rw [peek_cell _ hb, peek_cell s hb, cellAt_cell s hb]
    by_cases hhome : s.prg.home r' = s.prg.home r
    case neg =>
      rw [State.memOf_setMem_of_home_ne _ hhome, if_neg fun h => hhome (Prod.mk.inj (Option.some.inj h)).1]
    rw [State.memOf_setMem_of_home_eq _ hhome, State.memOf_of_home_eq hhome, hm, hhome]
    have hmem := State.wf_memOf hs hm
    by_cases hj : j = i
    · rw [hj, if_pos rfl, Option.map_some, Memory.read_write_same i v hmem]
    · rw [if_neg fun h => hj (Prod.mk.inj (Option.some.inj h)).2, Option.map_some, Option.map_some,
        Memory.read_write_other v hmem hj]

/-! What a read changes (20_memory.md R81; 50_ppu.md R306, R313, R315, R316). -/

theorem readWriteOnly_freeCount {reg : Word} {v : Byte} {s t : State} (h : readWriteOnly reg s = .ok v t) :
    t = { s with freeCount := t.freeCount } := by
  unfold readWriteOnly at h
  split at h <;> cases h
  rfl

/-- A read of the data port changes the buffer and the address only. -/
theorem readData_frame {v : Byte} {s t : State} (h : readData s = .ok v t) :
    ∃ buf value, t = { s with ppu := { s.ppu with
      readBuf := buf, vaddr := { s.ppu.vaddr with value := value } } } := by
  obtain ⟨_, hread⟩ | ⟨_, buf, hread⟩ := readData_cases s
  · cases hread ▸ h
  · cases hread ▸ h
    exact ⟨buf, _, rfl⟩

/-! The obligations. -/

/-- Settles O24: the store is to the cell of the address, unless the policy of the banks ignores it. -/
theorem writeIsReadBackAtEveryMirror : Obligations.WriteIsReadBackAtEveryMirror := by
  intro addr v s c hs hcan hcell
  obtain ⟨t, ht⟩ := busWrite_of_canWrite v hcan
  refine ⟨t, ht, ?_⟩
  cases busWrite_written ht with
  | @ignored r i hc hr hp =>
    obtain rfl := Option.some.inj ((cellAt_cell s hc).symm.trans hcell)
    exact ⟨fun hpolicy => absurd hp (hpolicy ((Prg.home_bank _ _).mpr hr)), fun _ _ _ => rfl⟩
  | @stored r i m hc hp hm =>
    refine ⟨fun _ b => hcell ▸ peek_setMem hs hc hm, fun hbank hignore => ?_⟩
    obtain rfl := Option.some.inj ((cellAt_cell s hc).symm.trans hcell)
    have hstore := hp ((Prg.home_bank _ _).mp hbank)
    cases hstore.symm.trans hignore
  | register hc =>
    cases (cellAt_register s hc).symm.trans hcell

/-- Settles O25: a cell by `busRead_cell`; a register by its number. -/
theorem busReadSideEffects : Obligations.BusReadSideEffects := by
  intro addr s t v h
  refine ⟨busRead_effect h, fun r k hc => busRead_cell hc h, fun reg hc => ?_⟩
  rw [busRead_of_register s hc] at h
  by_cases hstatus : reg = 0x2002#16
  case pos =>
    subst hstatus
    cases (readRegister_status s).trans (readStatus_eq s) ▸ h
    exact ⟨fun h => absurd rfl h, fun _ => ⟨rfl, rfl⟩, fun h => absurd rfl h,
      fun _ => ⟨_, rfl, fun hoff => if_pos hoff⟩,
      fun h => absurd h (by decide), fun _ _ => rfl⟩
  by_cases hdata : reg = 0x2007#16
  case pos =>
    subst hdata
    obtain ⟨buf, value, rfl⟩ := readData_frame h
    exact ⟨fun _ _ _ h => absurd rfl h, fun h => absurd rfl h, fun _ => ⟨rfl, rfl, rfl⟩, fun h => absurd h hstatus,
      fun h => absurd h (by decide), fun _ _ => rfl⟩
  by_cases hfree : reg = 0x2005#16 ∨ reg = 0x2006#16
  case pos =>
    have hframe : t = { s with freeCount := t.freeCount } := by
      obtain rfl | rfl := hfree <;> exact readWriteOnly_freeCount h
    rw [hframe]
    exact ⟨fun _ h5 h6 _ => absurd hfree (not_or.mpr ⟨h5, h6⟩), fun _ => ⟨rfl, rfl⟩, fun _ => ⟨rfl, rfl, rfl⟩,
      fun h => absurd h hstatus, fun _ => rfl, fun h5 h6 => absurd hfree (not_or.mpr ⟨h5, h6⟩)⟩
  obtain ⟨h5, h6⟩ := not_or.mp hfree
  have hplain := (readRegister_cases (mem_ppuRegisterAddrs_of_cpuTarget hc) s).resolve_right
    (by simp only [hstatus, h5, h6, hdata, or_self, not_false_eq_true])
  obtain ⟨w, hplain⟩ := hplain
  cases hplain ▸ h
  exact ⟨fun _ _ _ _ => rfl, fun _ => ⟨rfl, rfl⟩, fun _ => ⟨rfl, rfl, rfl⟩, fun h => absurd h hstatus, fun _ => rfl,
    fun _ _ => rfl⟩

/-- Settles O26: an access is decided by `CanRead` or `CanWrite`. -/
theorem busAccessCompletesOrFaults : Obligations.BusAccessCompletesOrFaults := fun _ v _ =>
  ⟨busRead_of_canRead, busWrite_of_canWrite v, busRead_of_not_canRead, busWrite_of_not_canWrite v⟩

/-- Settles O32: the permissive read answers the free byte; the write of OAMDATA by its equation. -/
theorem policyAlternatives : Obligations.PolicyAlternatives := by
  refine ⟨fun r s hr hacc => ?_, fun v s hinc => ?_⟩
  · have hread : readRegister r s = readWriteOnly r s := by obtain rfl | rfl := hr <;> rfl
    rw [hread, readWriteOnly, hacc]
    exact ⟨_, _, rfl⟩
  · rw [writeRegister_oamData, hinc]
    rfl

end Sys2Proof.Machine
end

section
/-! PROOFS. The addressing modes (40_cpu_common.md R135 to R145, R152, R154): resolving a memory operand completes and
changes nothing, since its pointers lie in the zero page of work RAM; then an access is one on the resolved address.
From these O39 and O40. -/

namespace Sys2Proof.Machine

/-! Addresses in numbers. -/

theorem zeroPage_eq_ofNat (z : Byte) : zeroPage z = BitVec.ofNat 16 z.toNat := (BitVec.ofNat_toNat 16 z).symm

theorem add_extend_eq_ofNat (w : Word) (index : Byte) :
    w + extend index = BitVec.ofNat 16 ((w.toNat + index.toNat) % 65536) := by
  apply BitVec.eq_of_toNat_eq
  simp [extend, BitVec.toNat_add]

theorem wordOf_eq_ofNat (hi lo : Byte) : wordOf hi lo = BitVec.ofNat 16 (hi.toNat * 256 + lo.toNat) := by
  have hword : (wordOf hi lo).toNat = hi.toNat * 256 + lo.toNat := toNat_append_eq_add hi lo
  rw [← hword, BitVec.ofNat_toNat, BitVec.setWidth_eq]

/-! Pointers in the zero page (R142, R143). -/

theorem busRead_zeroPage (z : Byte) (s : State) : busRead (zeroPage z) s = .ok (s.wram.read z.toNat) s := by
  have hz := z.isLt
  have haddr : (zeroPage z).toNat = z.toNat := BitVec.toNat_setWidth_of_le (by decide)
  have hc : cpuTarget (zeroPage z) = .cell .wram z.toNat := by
    rw [cpuTarget_wram (by omega), haddr, Nat.mod_eq_of_lt (by omega)]
  exact busRead_of_cell hc (lt_size_of_cpuTarget hc) rfl

theorem readZeroPagePointer_eq (z : Byte) (s : State) : readZeroPagePointer z s = .ok (BitVec.ofNat 16
    ((s.wram.read ((z.toNat + 1) % 256)).toNat * 256 + (s.wram.read z.toNat).toNat)) s := by
  rw [readZeroPagePointer, readPointer, busRead_zeroPage, Access.andThen_ok, busRead_zeroPage, Access.andThen_ok,
    wordOf_eq_ofNat]
  rfl

/-- The address that a memory operand stands for. -/
def addressOf (m : MemMode) (s : State) : Word :=
  match m with
  | .zp z => zeroPage z
  | .zpx z => zeroPage (z + s.x)
  | .zpy z => zeroPage (z + s.y)
  | .abs addr => addr
  | .abx addr => addr + extend s.x
  | .aby addr => addr + extend s.y
  | .izx z => BitVec.ofNat 16
      ((s.wram.read (((z + s.x).toNat + 1) % 256)).toNat * 256 + (s.wram.read (z + s.x).toNat).toNat)
  | .izy z => BitVec.ofNat 16
      ((s.wram.read ((z.toNat + 1) % 256)).toNat * 256 + (s.wram.read z.toNat).toNat) + extend s.y

/-- Resolving completes in every state and changes nothing. -/
theorem resolve_eq (m : MemMode) (s : State) : resolve m s = .ok (addressOf m s) s := by
  cases m with
  | izx z => exact readZeroPagePointer_eq (z + s.x) s
  | izy z =>
    rw [resolve, readZeroPagePointer_eq]
    rfl
  | _ => rfl

/-! Load, Store and Modify on the address (R145, R154). -/

theorem load_mem_eq (m : MemMode) (s : State) : load (.mem m) s = busRead (addressOf m s) s := by
  rw [load, resolve_eq, Access.andThen_ok]

theorem load_of_resolve {m : MemMode} {addr : Word} {s s1 : State} (h : resolve m s = .ok addr s1) :
    load (.mem m) s = busRead addr s1 := by
  rw [load, h, Access.andThen_ok]

/-! The obligations. -/

/-- Settles O39: the address of each format, in numbers. -/
theorem addressOfEachFormat : Obligations.AddressOfEachFormat := by
  intro z w s
  simp only [resolve_eq, addressOf, zeroPage_eq_ofNat, add_extend_eq_ofNat, BitVec.toNat_add, Nat.reducePow,
    Nat.mod_add_mod, BitVec.toNat_ofNat, and_self]

/-- Settles O40: each operation access by access, once the operand is resolved. -/
theorem loadStoreModify : Obligations.LoadStoreModify := by
  refine ⟨fun _ _ => rfl, fun m addr s s1 hr => ⟨load_of_resolve hr, fun v => store_of_resolve v hr⟩, fun _ _ => rfl,
    fun f m addr old s s1 s2 hr hb => ⟨fun t hw => ?written, fun e hw => ?writeFault⟩,
    fun f m addr e s s1 hr hb => modify_of_read_fault hr hb⟩
  case written => rw [modify_of_read hr hb, hw, Access.andThen_ok]
  case writeFault => rw [modify_of_read hr hb, hw, Access.andThen_fault]

end Sys2Proof.Machine
end

section
/-! PROOFS. What `exec` is made of: each of the 227 instructions is one of a few kinds, and its kind decides what `exec`
answers in every state, access by access (40_cpu_common.md section 3). From this O58. -/

namespace Sys2Proof.Machine

/-! The kinds of instructions. -/

/-- What an instruction does whatever the state: the converse of `Effect`, with its effect as functions. -/
inductive Kind (i : Instr) : Prop where
  | read {src : Src} {f : Byte → State → State} (ho : i.operand = src.operand)
      (hf : ∀ v u, ReadsTo i.operation v u (f v u))
  | write {m : MemMode} {value : State → Byte} (ho : i.operand = .mem m)
      (hv : ∀ s, StoresOf i.operation s (value s))
  | modify {m : MemMode} {f : Bool → Byte → Byte × Bool} {g : Byte × Bool → State → State} (ho : i.operand = .mem m)
      (hf : ∀ c, ModifiesBy i.operation c (f c)) (hg : ∀ r u, ModifiesTo i.operation r u (g r u))
  | modifyAcc {f : Bool → Byte → Byte × Bool} {g : Byte × Bool → State → State} (ho : i.operand = .acc)
      (hf : ∀ c, ModifiesBy i.operation c (f c)) (hg : ∀ r u, ModifiesTo i.operation r u (g r u))
  | plain {g : State → State} (hg : ∀ s, Plain s i.operation (g s))
  | branch {d : Int} (ho : i.operand = .rel d)
  | jmp {addr : Word} (hi : i = .jmpAbs addr)
  | jmpInd {ptr : Word} (hi : i = .jmpInd ptr)
  | jsr {addr : Word} (hi : i = .jsr addr)
  | rts (hi : i = .rts)
  | rti (hi : i = .rti)
  | pha (hi : i = .pha)
  | php (hi : i = .php)
  | pla (hi : i = .pla)
  | plp (hi : i = .plp)

theorem kind (i : Instr) : Kind i := by
  cases i with
  | oraImm | andImm | eorImm | adcImm | ldyImm | ldxImm | ldaImm | cpyImm | cmpImm | cpxImm | sbcImm | sbcImmEB =>
    apply Kind.read (src := .imm _) rfl
    intros
    constructor
  | oraIzx | oraZp | oraAbs | oraIzy | oraZpx | oraAby | oraAbx | andIzx | bitZp | andZp | bitAbs | andAbs | andIzy
  | andZpx | andAby | andAbx | eorIzx | eorZp | eorAbs | eorIzy | eorZpx | eorAby | eorAbx | adcIzx | adcZp | adcAbs
  | adcIzy | adcZpx | adcAby | adcAbx | ldaIzx | laxIzx | ldyZp | ldaZp | ldxZp | laxZp | ldyAbs | ldaAbs | ldxAbs
  | laxAbs | ldaIzy | laxIzy | ldyZpx | ldaZpx | ldxZpy | laxZpy | ldaAby | ldyAbx | ldaAbx | ldxAby | laxAby | cmpIzx
  | cpyZp | cmpZp | cpyAbs | cmpAbs | cmpIzy | cmpZpx | cmpAby | cmpAbx | sbcIzx | cpxZp | sbcZp | cpxAbs | sbcAbs
  | sbcIzy | sbcZpx | sbcAby | sbcAbx =>
    apply Kind.read (src := .mem _) rfl
    intros
    constructor
  | staIzx | aaxIzx | styZp | staZp | stxZp | aaxZp | styAbs | staAbs | stxAbs | aaxAbs | staIzy | styZpx | staZpx
  | stxZpy | aaxZpy | staAby | staAbx =>
    apply Kind.write rfl
    intros
    constructor
  | aslAcc | rolAcc | lsrAcc | rorAcc =>
    apply Kind.modifyAcc rfl
    all_goals
      intros
      constructor
  | hlt | skbZp04 | skwAbs | skbZpx14 | clc | nop1A | skwAbx1C | skbZpx34 | sec | nop3A | skwAbx3C | skbZp44
  | skbZpx54 | cli | nop5A | skwAbx5C | skbZp64 | skbZpx74 | sei | nop7A | skwAbx7C | skbImm | dey | txa | tya | txs
  | tay | tax | clv | tsx | iny | dex | skbZpxD4 | cld | nopDA | skwAbxDC | inx | nop | skbZpxF4 | sed | nopFA
  | skwAbxFC =>
    apply Kind.plain
    intros
    constructor
  | bpl | bmi | bvc | bvs | bcc | bcs | bne | beq => exact .branch rfl
  | jmpAbs => exact .jmp rfl
  | jmpInd => exact .jmpInd rfl
  | jsr => exact .jsr rfl
  | rts => exact .rts rfl
  | rti => exact .rti rfl
  | pha => exact .pha rfl
  | php => exact .php rfl
  | pla => exact .pla rfl
  | plp => exact .plp rfl
  | _ =>
    apply Kind.modify rfl
    all_goals
      intros
      constructor

/-! What each kind answers. -/

theorem ReadsTo.ops {op : Operation} {v : Byte} {u t : State} (h : ReadsTo op v u t) :
    op ∈ readingOps ∧ op ∉ storingOps := by
  cases h <;> decide

theorem StoresOf.ops {op : Operation} {s : State} {v : Byte} (h : StoresOf op s v) :
    op ∉ readingOps ∧ op ∈ storingOps := by
  cases h <;> decide

theorem ModifiesBy.ops {op : Operation} {c : Bool} {f : Byte → Byte × Bool} (h : ModifiesBy op c f) :
    op ∈ readingOps ∧ op ∈ storingOps := by
  cases h <;> decide

theorem Plain.ops {op : Operation} {s t : State} (h : Plain s op t) : op ∉ readingOps ∧ op ∉ storingOps := by
  cases h <;> decide

theorem exec_of_reads {i : Instr} {src : Src} {f : Byte → State → State} (ho : i.operand = src.operand)
    (hf : ∀ v u, ReadsTo i.operation v u (f v u)) (s : State) :
    exec i s = (load src s).conclude fun v u => .next (f v u) := by
  cases hl : load src s with
  | ok v u => exact exec_of_readsTo ho hl (hf v u)
  | fault e => exact exec_of_load_fault ho hl (hf 0#8 s)

theorem exec_of_stores {i : Instr} {m : MemMode} {value : State → Byte} (ho : i.operand = .mem m)
    (hv : ∀ s, StoresOf i.operation s (value s)) (s : State) :
    exec i s = (busWrite (addressOf m s) (value s) s).conclude fun _ t => .next t := by
  rw [exec_of_storesOf ho (hv s), store_of_resolve _ (resolve_eq m s)]

theorem modify_mem_eq (m : MemMode) (f : Byte → Byte × Bool) (s : State) :
    modify (.mem m) f s = (busRead (addressOf m s) s).andThen fun old s1 =>
      (busWrite (addressOf m s) (f old).1 s1).andThen fun _ s2 => .ok (f old) s2 := by
  rw [modify, resolve_eq, Access.andThen_ok]

theorem exec_of_modifies {i : Instr} {m : MemMode} {f : Bool → Byte → Byte × Bool} {g : Byte × Bool → State → State}
    (ho : i.operand = .mem m) (hf : ∀ c, ModifiesBy i.operation c (f c))
    (hg : ∀ r u, ModifiesTo i.operation r u (g r u)) (s : State) :
    exec i s = (modify (.mem m) (f s.p.c) s).conclude fun r u => .next (g r u) := by
  cases hm : modify (.mem m) (f s.p.c) s with
  | ok r u => exact exec_of_modifiesTo ho (hf s.p.c) hm (hg r u)
  | fault e => exact exec_of_modify_fault ho (hf s.p.c) hm

theorem resolveIndirect_eq (p : Word) (s : State) : resolveIndirect p s =
    (busRead p s).andThen fun lo s1 => (busRead (pointerHighAddr p) s1).andThen fun hi s2 => .ok (hi ++ lo) s2 := rfl

theorem exec_jmpInd (p : Word) (s : State) :
    exec (.jmpInd p) s = (resolveIndirect p s).conclude fun target u => .next (u.setPc target) := rfl

theorem exec_rti (s : State) : exec .rti s = .next { s with
    sp := s.sp + 3#8
    p := unpacked s.cfg.pullB (stackByte s (s.sp + 1#8)) s.p
    pc := stackByte s (s.sp + 3#8) ++ stackByte s (s.sp + 2#8) } :=
  Access.conclude_of_ok (returnFromInterrupt_eq s)

theorem eq_jmpInd_of_operand {i : Instr} {p : Word} (h : i.operand = .ind p) : i = .jmpInd p := by
  cases i <;> cases h
  rfl

/-! Which accesses an instruction makes through its operand. -/

theorem canRead_iff {addr : Word} {s : State} : CanRead addr s ↔ ∃ v t, busRead addr s = .ok v t := by
  refine ⟨busRead_of_canRead, fun ⟨v, t, h⟩ => ?_⟩
  by_contra hcan
  cases (busRead_of_not_canRead hcan).symm.trans h

theorem canWrite_iff {addr : Word} (v : Byte) {s : State} : CanWrite addr s ↔ ∃ t, busWrite addr v s = .ok () t := by
  refine ⟨busWrite_of_canWrite v, fun ⟨t, h⟩ => ?_⟩
  by_contra hcan
  cases (busWrite_of_not_canWrite v hcan).symm.trans h

theorem accessesCanComplete_mem {i : Instr} {m : MemMode} (ho : i.operand = .mem m) (s : State) :
    AccessesCanComplete i s ↔
      (i.operation ∈ readingOps → CanRead (addressOf m s) s ∧
        (i.operation ∈ storingOps → ∀ v t, busRead (addressOf m s) s = .ok v t → CanWrite (addressOf m s) t)) ∧
      (i.operation ∉ readingOps → i.operation ∈ storingOps → CanWrite (addressOf m s) s) := by
  simp only [AccessesCanComplete, ho, Operand.mem.injEq, resolve_eq, Access.ok.injEq, reduceCtorEq, false_implies,
    implies_true, and_true]
  exact ⟨fun h => h _ _ _ rfl ⟨rfl, rfl⟩, fun h m' addr s1 hm ⟨haddr, hs⟩ => by subst hm haddr hs; exact h⟩

theorem accessesCanComplete_ind {i : Instr} {p : Word} (ho : i.operand = .ind p) (s : State) :
    AccessesCanComplete i s ↔
      CanRead p s ∧ ∀ v t, busRead p s = .ok v t → CanRead (pointerHighAddr p) t := by
  simp only [AccessesCanComplete, ho, reduceCtorEq, false_implies, implies_true, true_and, Operand.ind.injEq,
    forall_eq', pointerHighAddr_eq_masks]

/-- An instruction without an operand in memory, or whose operation does not go there, makes no such access. -/
theorem accessesCanComplete_of_none {i : Instr} (hmem : ∀ m, i.operand = .mem m →
    i.operation ∉ readingOps ∧ i.operation ∉ storingOps) (hind : ∀ p, i.operand ≠ .ind p) (s : State) :
    AccessesCanComplete i s :=
  ⟨fun m _ _ ho _ => ⟨fun h => absurd h (hmem m ho).1, fun _ h => absurd h (hmem m ho).2⟩,
    fun p ho => absurd ho (hind p)⟩

/-- The kinds again, by the accesses made through the operand and nothing else. -/
inductive AccessKind (i : Instr) : Prop where
  | none (hmem : ∀ m, i.operand = .mem m → i.operation ∉ readingOps ∧ i.operation ∉ storingOps)
      (hind : ∀ p, i.operand ≠ .ind p) (hexec : ∀ s, ∃ t, exec i s = .next t)
  | read {m : MemMode} {f : Byte → State → State} (ho : i.operand = .mem m)
      (hop : i.operation ∈ readingOps ∧ i.operation ∉ storingOps)
      (hexec : ∀ s, exec i s = (busRead (addressOf m s) s).conclude fun v u => .next (f v u))
  | write {m : MemMode} {value : State → Byte} (ho : i.operand = .mem m)
      (hop : i.operation ∉ readingOps ∧ i.operation ∈ storingOps)
      (hexec : ∀ s, exec i s = (busWrite (addressOf m s) (value s) s).conclude fun _ t => .next t)
  | modify {m : MemMode} {f : Bool → Byte → Byte × Bool} {g : Byte × Bool → State → State} (ho : i.operand = .mem m)
      (hop : i.operation ∈ readingOps ∧ i.operation ∈ storingOps)
      (hexec : ∀ s, exec i s = (modify (.mem m) (f s.p.c) s).conclude fun r u => .next (g r u))
  | ind {p : Word} (ho : i.operand = .ind p)
      (hexec : ∀ s, exec i s = (resolveIndirect p s).conclude fun target u => .next (u.setPc target))

theorem accessKind (i : Instr) : AccessKind i := by
  cases kind i with
  | @read src f ho hf =>
    cases src with
    | imm v => exact .none (by simp [ho, Src.operand]) (by simp [ho, Src.operand]) fun s => ⟨_, exec_of_reads ho hf s⟩
    | mem m =>
      refine .read (f := f) ho (hf 0#8 State.reset).ops fun s => ?_
      rw [exec_of_reads ho hf, load_mem_eq]
  | write ho hv => exact .write ho (hv State.reset).ops (exec_of_stores ho hv)
  | modify ho hf hg => exact .modify ho (hf false).ops (exec_of_modifies ho hf hg)
  | modifyAcc ho hf hg =>
    exact .none (by simp [ho]) (by simp [ho]) fun s => ⟨_, exec_of_modifiesTo_acc ho (hf s.p.c) (hg _ _)⟩
  | plain hg =>
    refine .none (fun _ _ => (hg State.reset).ops) (fun p ho => ?_) fun s => ⟨_, exec_of_plain (hg s)⟩
    obtain rfl := eq_jmpInd_of_operand ho
    cases hg State.reset
  | branch ho => exact .none (by simp [ho]) (by simp [ho]) fun s => ⟨_, exec_of_rel ho s⟩
  | jmpInd hi => subst hi; exact .ind rfl (exec_jmpInd _)
  | jmp hi =>
    subst hi
    have hops : Operation.jmp ∉ readingOps ∧ Operation.jmp ∉ storingOps := by decide
    exact .none (fun _ _ => hops) nofun fun s => ⟨_, rfl⟩
  | jsr hi =>
    subst hi
    have hops : Operation.jsr ∉ readingOps ∧ Operation.jsr ∉ storingOps := by decide
    exact .none (fun _ _ => hops) nofun fun s => ⟨_, exec_jsr _ s⟩
  | rts hi => subst hi; exact .none nofun nofun fun s => ⟨_, exec_rts s⟩
  | rti hi => subst hi; exact .none nofun nofun fun s => ⟨_, exec_rti s⟩
  | pha hi => subst hi; exact .none nofun nofun fun s => ⟨_, exec_pha s⟩
  | php hi => subst hi; exact .none nofun nofun fun s => ⟨_, exec_php s⟩
  | pla hi => subst hi; exact .none nofun nofun fun s => ⟨_, exec_pla s⟩
  | plp hi => subst hi; exact .none nofun nofun fun s => ⟨_, exec_plp s⟩

/-! Completion and faults. -/

theorem modify_mem_eq_ok {m : MemMode} {f : Byte → Byte × Bool} {s : State} :
    (∃ r u, modify (.mem m) f s = .ok r u) ↔ CanRead (addressOf m s) s ∧
      ∀ v t, busRead (addressOf m s) s = .ok v t → CanWrite (addressOf m s) t := by
  rw [modify_mem_eq, canRead_iff]
  cases hb : busRead (addressOf m s) s with
  | fault e => simp
  | ok old s1 =>
    simp only [Access.andThen_ok, Access.ok.injEq, canWrite_iff (f old).1]
    cases hw : busWrite (addressOf m s) (f old).1 s1 <;> simp [hw]

theorem resolveIndirect_eq_ok {p : Word} {s : State} :
    (∃ w u, resolveIndirect p s = .ok w u) ↔
      CanRead p s ∧ ∀ v t, busRead p s = .ok v t → CanRead (pointerHighAddr p) t := by
  rw [resolveIndirect_eq, canRead_iff]
  cases hb : busRead p s with
  | fault e => simp
  | ok lo s1 =>
    simp only [Access.andThen_ok, canRead_iff]
    cases hr : busRead (pointerHighAddr p) s1 <;> simp [hr]

/-- An instruction that ends on an access completes where the access does. -/
theorem Access.conclude_completes {α : Type} {r : Access α} {k : α → State → State} :
    (∃ t, (r.conclude fun v u => .next (k v u)) = .next t) ↔ ∃ v u, r = .ok v u := by
  cases r <;> simp [conclude, raise]

theorem exec_completes_iff (i : Instr) (s : State) : (∃ t, exec i s = .next t) ↔ AccessesCanComplete i s := by
  cases accessKind i with
  | none hmem hind hexec => exact iff_of_true (hexec s) (accessesCanComplete_of_none hmem hind s)
  | read ho hop hexec =>
    rw [hexec, Access.conclude_completes, accessesCanComplete_mem ho, ← canRead_iff]
    simp [hop]
  | @write m value ho hop hexec =>
    rw [hexec, Access.conclude_completes (k := fun _ t => t), accessesCanComplete_mem ho, canWrite_iff (value s)]
    simp [hop, Unique.exists_iff]
  | modify ho hop hexec =>
    rw [hexec, Access.conclude_completes, accessesCanComplete_mem ho, modify_mem_eq_ok]
    simp [hop]
  | ind ho hexec => rw [hexec, Access.conclude_completes, accessesCanComplete_ind ho, resolveIndirect_eq_ok]

/-- An instruction completes or ends in the fault of an access: no meaning is missing and no other fault is raised. -/
theorem exec_outcome (i : Instr) (s : State) :
    (∃ t, exec i s = .next t) ∨ ∃ f, exec i s = .fault f ∧ f.raisedByAccess = true := by
  have hconclude {α : Type} {r : Access α} (k : α → State → State)
      (hr : ∀ f, r = .fault f → f.raisedByAccess = true) :
      (∃ t, (r.conclude fun v u => .next (k v u)) = .next t) ∨
        ∃ f, (r.conclude fun v u => .next (k v u)) = .fault f ∧ f.raisedByAccess = true := by
    cases r with
    | ok v u => exact .inl ⟨_, rfl⟩
    | fault f => exact .inr ⟨f, rfl, hr f rfl⟩
  cases accessKind i with
  | none _ _ hexec => exact .inl (hexec s)
  | read _ _ hexec => exact hexec s ▸ hconclude _ fun f => raisedByAccess_of_busRead
  | write _ _ hexec => exact hexec s ▸ hconclude (fun _ t => t) fun f => raisedByAccess_of_busWrite
  | modify _ _ hexec =>
    refine hexec s ▸ hconclude _ fun f h => ?_
    obtain h | ⟨_, _, _, h⟩ := Access.andThen_eq_fault.mp (modify_mem_eq _ _ s ▸ h)
    · exact raisedByAccess_of_busRead h
    · exact raisedByAccess_of_busWrite (fault_of_andThen_ok h)
  | ind _ hexec =>
    refine hexec s ▸ hconclude _ fun f h => ?_
    obtain h | ⟨_, _, _, h⟩ := Access.andThen_eq_fault.mp h
    · exact raisedByAccess_of_busRead h
    obtain h | ⟨_, _, _, h⟩ := Access.andThen_eq_fault.mp h
    · exact raisedByAccess_of_busRead h
    · cases h

/-- The read of the operand's byte comes first. -/
theorem exec_of_read_fault {i : Instr} {m : MemMode} {s : State} {e : Fault} (ho : i.operand = .mem m)
    (hop : i.operation ∈ readingOps) (h : busRead (addressOf m s) s = .fault e) : exec i s = .fault e := by
  cases accessKind i with
  | none hmem => exact absurd hop (hmem m ho).1
  | read ho' _ hexec =>
    cases ho.symm.trans ho'
    rw [hexec, h, Access.conclude_fault]
  | write _ hop' => exact absurd hop hop'.1
  | modify ho' _ hexec =>
    cases ho.symm.trans ho'
    rw [hexec, modify_mem_eq, h, Access.andThen_fault, Access.conclude_fault]
  | ind ho' => cases ho.symm.trans ho'

/-- The write of the operand's byte comes after the read, if the operation makes one. -/
theorem exec_of_write_not_can {i : Instr} {m : MemMode} {s t : State} (ho : i.operand = .mem m)
    (hop : i.operation ∈ storingOps)
    (ht : if i.operation ∈ readingOps then ∃ v, busRead (addressOf m s) s = .ok v t else t = s)
    (h : ¬ CanWrite (addressOf m s) t) : exec i s = .fault (writeFault (addressOf m s) t) := by
  cases accessKind i with
  | none hmem => exact absurd hop (hmem m ho).2
  | read _ hop' => exact absurd hop hop'.2
  | write ho' hop' hexec =>
    cases ho.symm.trans ho'
    obtain rfl := (if_neg hop'.1 ▸ ht :)
    rw [hexec, busWrite_of_not_canWrite _ h, Access.conclude_fault]
  | modify ho' hop' hexec =>
    cases ho.symm.trans ho'
    obtain ⟨v, hread⟩ := (if_pos hop'.1 ▸ ht :)
    rw [hexec, modify_mem_eq, hread, Access.andThen_ok, busWrite_of_not_canWrite _ h, Access.andThen_fault,
      Access.conclude_fault]
  | ind ho' => cases ho.symm.trans ho'

/-! The obligation. -/

/-- Settles O58: an instruction completes where its accesses do; else the first access that cannot raises its fault. -/
theorem everyInstructionCompletesOrFaults : Obligations.EveryInstructionCompletesOrFaults := by
  refine fun i s => ⟨(exec_completes_iff i s).mpr, fun h => ?fault, fun m addr s1 ho hr => ?mem, fun p ho => ?ind⟩
  case fault => exact (exec_outcome i s).resolve_left (mt (exec_completes_iff i s).mp h)
  case mem =>
    cases (resolve_eq m s).symm.trans hr
    refine ⟨fun hop h => ?read, fun hread hop v s2 hb h => ?modify, fun hread hop h => ?write⟩
    case read => exact exec_of_read_fault ho hop (busRead_of_not_canRead h)
    case modify => exact exec_of_write_not_can ho hop ((if_pos hread).symm ▸ ⟨v, hb⟩) h
    case write => exact exec_of_write_not_can ho hop ((if_neg hread).symm ▸ rfl) h
  case ind =>
    obtain rfl := eq_jmpInd_of_operand ho
    rw [← pointerHighAddr_eq_masks]
    refine ⟨fun h => ?first, fun lo s1 hb h => ?second⟩
    case first => exact exec_jmpInd_of_fault (readPointer_of_fault _ (busRead_of_not_canRead h))
    case second =>
      refine exec_jmpInd_of_fault ((readPointer_of_read _ hb).trans ?_)
      rw [busRead_of_not_canRead h, Access.andThen_fault]

end Sys2Proof.Machine
end

section
/-! PROOFS. What the Cpu cannot see (50_ppu.md section 4; 70_reset_and_hazards.md section 5): the framebuffer and the
Ppu's counters may be replaced before an access, an instruction or its fetch as well as after it, so that only the PPU
clocks of a step can tell. From this O20 and O21. -/

namespace Sys2Proof.Machine

/-- The framebuffer replaced, and the two counters by functions of what they were. -/
def retime (fb : Framebuffer) (line dot : Nat → Nat) (s : State) : State :=
  { s with fb := fb, ppu := { s.ppu with scanline := line s.ppu.scanline, cycle := dot s.ppu.cycle } }

/-- An access's answer with its state changed. -/
def Access.mapState {α : Type} (g : State → State) : Access α → Access α
  | .ok v s => .ok v (g s)
  | .fault f => .fault f

/-- An instruction's answer with its next state changed. -/
def mapNext (g : State → State) : Result → Result
  | .next s => .next (g s)
  | .fault f => .fault f
  | .refused r => .refused r

theorem Access.andThen_mapState {α β : Type} {g : State → State} {r : Access α} {k : α → State → Access β}
    (hk : ∀ v s, k v (g s) = (k v s).mapState g) : (r.mapState g).andThen k = (r.andThen k).mapState g := by
  cases r with
  | ok v s => exact hk v s
  | fault f => rfl

theorem Access.conclude_mapState {α : Type} {g : State → State} {r : Access α} {k : α → State → Result}
    (hk : ∀ v s, k v (g s) = mapNext g (k v s)) : (r.mapState g).conclude k = mapNext g (r.conclude k) := by
  cases r with
  | ok v s => exact hk v s
  | fault f => rfl

section Retime
variable (fb : Framebuffer) (line dot : Nat → Nat)

/-! Accesses. -/

theorem memOf_retime (r : Region) (s : State) : (retime fb line dot s).memOf r = s.memOf r := by
  cases r <;> rfl

theorem setMem_retime (r : Region) (m : Memory) (s : State) :
    (retime fb line dot s).setMem r m = retime fb line dot (s.setMem r m) := by
  cases r <;> rfl

theorem readCell_retime (r : Region) (i : Nat) (s : State) :
    readCell r i (retime fb line dot s) = (readCell r i s).mapState (retime fb line dot) := by
  simp only [readCell, memOf_retime]
  split
  · split <;> rfl
  · rfl

theorem writeCell_retime (r : Region) (i : Nat) (v : Byte) (s : State) :
    writeCell r i v (retime fb line dot s) = (writeCell r i v s).mapState (retime fb line dot) := by
  simp only [writeCell, memOf_retime, setMem_retime]
  split
  · split <;> rfl
  · rfl

theorem ppuRead_retime (a : PpuAddr) (s : State) :
    ppuRead a (retime fb line dot s) = (ppuRead a s).mapState (retime fb line dot) := by
  unfold ppuRead
  split
  · exact readCell_retime fb line dot _ _ s
  · rfl

theorem ppuWrite_retime (a : PpuAddr) (v : Byte) (s : State) :
    ppuWrite a v (retime fb line dot s) = (ppuWrite a v s).mapState (retime fb line dot) := by
  unfold ppuWrite
  split
  · exact writeCell_retime fb line dot _ _ v s
  · rfl

theorem readStatus_retime (s : State) :
    readStatus (retime fb line dot s) = (readStatus s).mapState (retime fb line dot) := by
  rw [readStatus_eq, readStatus_eq]
  rfl

theorem readWriteOnly_retime (reg : Word) (s : State) :
    readWriteOnly reg (retime fb line dot s) = (readWriteOnly reg s).mapState (retime fb line dot) := by
  cases h : s.cfg.regAccess <;> simp only [readWriteOnly, retime, h] <;> rfl

theorem readData_retime (s : State) :
    readData (retime fb line dot s) = (readData s).mapState (retime fb line dot) := by
  have haddr : vramAddress (retime fb line dot s) = vramAddress s := rfl
  rw [readData, haddr, ppuRead_retime]
  refine Access.andThen_mapState fun v u => ?_
  split <;> rfl

theorem writeData_retime (v : Byte) (s : State) :
    writeData v (retime fb line dot s) = (writeData v s).mapState (retime fb line dot) := by
  have haddr : vramAddress (retime fb line dot s) = vramAddress s := rfl
  rw [writeData, haddr, ppuWrite_retime]
  exact Access.andThen_mapState fun _ _ => rfl

theorem writeStatus_retime (s : State) :
    writeStatus (retime fb line dot s) = (writeStatus s).mapState (retime fb line dot) := by
  cases h : s.cfg.regAccess <;> simp only [writeStatus, retime, h] <;> rfl

theorem readRegister_retime (reg : Word) (s : State) :
    readRegister reg (retime fb line dot s) = (readRegister reg s).mapState (retime fb line dot) := by
  unfold readRegister
  split
  case h_4 => exact readStatus_retime fb line dot s
  case h_6 => exact readCell_retime fb line dot _ _ s
  case h_7 | h_8 => exact readWriteOnly_retime fb line dot reg s
  case h_9 => exact readData_retime fb line dot s
  all_goals rfl

theorem writeRegister_retime (reg : Word) (v : Byte) (s : State) :
    writeRegister reg v (retime fb line dot s) = (writeRegister reg v s).mapState (retime fb line dot) := by
  by_cases hreg : reg ∈ ppuRegisterAddrs
  case neg =>
    rw [writeRegister_of_notMem v _ hreg, writeRegister_of_notMem v _ hreg]
    rfl
  simp only [ppuRegisterAddrs, List.mem_cons, List.not_mem_nil, or_false] at hreg
  obtain rfl | rfl | rfl | rfl | rfl | rfl | rfl | rfl | rfl := hreg
  case inr.inr.inl =>
    rw [writeRegister_status, writeStatus_retime]
    exact Access.andThen_mapState fun _ _ => rfl
  case inr.inr.inr.inr.inr.inr.inr.inl =>
    rw [writeRegister_data, writeData_retime]
    exact Access.andThen_mapState fun _ _ => rfl
  all_goals
    simp only [writeRegister_ctrl, writeRegister_mask, writeRegister_oamAddr, writeRegister_oamData,
      writeRegister_scroll, writeRegister_addr, writeRegister_oamDma]
    rfl

theorem busRead_retime (addr : Word) (s : State) :
    busRead addr (retime fb line dot s) = (busRead addr s).mapState (retime fb line dot) := by
  unfold busRead
  split
  · exact readCell_retime fb line dot _ _ s
  · exact readRegister_retime fb line dot _ s

theorem busWrite_retime (addr : Word) (v : Byte) (s : State) :
    busWrite addr v (retime fb line dot s) = (busWrite addr v s).mapState (retime fb line dot) := by
  have hbank (r : Region) (i : Nat) :
      writeBank addr r i v (retime fb line dot s) = (writeBank addr r i v s).mapState (retime fb line dot) := by
    have hcfg : (retime fb line dot s).cfg = s.cfg := rfl
    rw [writeBank, writeBank, hcfg]
    cases s.cfg.prgWrite with
    | store => exact writeCell_retime fb line dot r i v s
    | _ => rfl
  unfold busWrite
  split
  · exact hbank _ _
  · exact hbank _ _
  · exact writeCell_retime fb line dot _ _ v s
  · rw [writeRegister_retime]
    exact Access.andThen_mapState fun _ _ => rfl

/-! The instruction. -/

theorem addressOf_retime (m : MemMode) (s : State) : addressOf m (retime fb line dot s) = addressOf m s := by
  cases m <;> rfl

theorem load_retime (src : Src) (s : State) :
    load src (retime fb line dot s) = (load src s).mapState (retime fb line dot) := by
  cases src with
  | imm v => rfl
  | mem m => rw [load_mem_eq, load_mem_eq, addressOf_retime, busRead_retime]

theorem modify_mem_retime (m : MemMode) (f : Byte → Byte × Bool) (s : State) :
    modify (.mem m) f (retime fb line dot s) = (modify (.mem m) f s).mapState (retime fb line dot) := by
  rw [modify_mem_eq, modify_mem_eq, addressOf_retime, busRead_retime]
  refine Access.andThen_mapState fun old u => ?_
  rw [busWrite_retime]
  exact Access.andThen_mapState fun _ _ => rfl

theorem resolveIndirect_retime (p : Word) (s : State) :
    resolveIndirect p (retime fb line dot s) = (resolveIndirect p s).mapState (retime fb line dot) := by
  rw [resolveIndirect_eq, resolveIndirect_eq, busRead_retime]
  refine Access.andThen_mapState fun lo u => ?_
  rw [busRead_retime]
  exact Access.andThen_mapState fun _ _ => rfl

variable {fb line dot}

theorem ReadsTo.retime {op : Operation} {v : Byte} {u t : State} (h : ReadsTo op v u t) :
    ReadsTo op v (retime fb line dot u) (Machine.retime fb line dot t) := by
  cases h <;> constructor

theorem ReadsTo.unique {op : Operation} {v : Byte} {u t t' : State} (h : ReadsTo op v u t) (h' : ReadsTo op v u t') :
    t = t' := by
  cases h <;> cases h' <;> rfl

theorem StoresOf.retime {op : Operation} {s : State} {v : Byte} (h : StoresOf op s v) :
    StoresOf op (retime fb line dot s) v := by
  cases h <;> constructor

theorem ModifiesTo.retime {op : Operation} {r : Byte × Bool} {u t : State} (h : ModifiesTo op r u t) :
    ModifiesTo op r (retime fb line dot u) (Machine.retime fb line dot t) := by
  cases h <;> constructor

theorem ModifiesTo.unique {op : Operation} {r : Byte × Bool} {u t t' : State} (h : ModifiesTo op r u t)
    (h' : ModifiesTo op r u t') : t = t' := by
  cases h <;> cases h' <;> rfl

theorem Plain.retime {op : Operation} {s t : State} (h : Plain s op t) :
    Plain (retime fb line dot s) op (Machine.retime fb line dot t) := by
  cases h <;> constructor

variable (fb line dot)

theorem exec_retime (i : Instr) (s : State) :
    exec i (retime fb line dot s) = mapNext (retime fb line dot) (exec i s) := by
  cases kind i with
  | read ho hf =>
    rw [exec_of_reads ho hf, exec_of_reads ho hf, load_retime]
    exact Access.conclude_mapState fun v u => congrArg Host.Outcome.next ((hf v _).unique (hf v u).retime)
  | write ho hv =>
    rw [exec_of_storesOf ho (hv s), exec_of_storesOf ho (hv s).retime, store_of_resolve _ (resolve_eq _ s),
      store_of_resolve _ (resolve_eq _ _), addressOf_retime, busWrite_retime]
    exact Access.conclude_mapState fun _ _ => rfl
  | modify ho hf hg =>
    have hcarry : (retime fb line dot s).p.c = s.p.c := rfl
    rw [exec_of_modifies ho hf hg, exec_of_modifies ho hf hg, hcarry, modify_mem_retime]
    exact Access.conclude_mapState fun r u => congrArg Host.Outcome.next ((hg r _).unique (hg r u).retime)
  | @modifyAcc f g ho hf hg =>
    rw [exec_of_modifiesTo_acc ho (hf s.p.c) (hg _ _)]
    have hto := (hg (f s.p.c s.a) (s.setA (f s.p.c s.a).1)).retime (fb := fb) (line := line) (dot := dot)
    exact exec_of_modifiesTo_acc (s := retime fb line dot s) ho (hf s.p.c) hto
  | plain hg =>
    rw [exec_of_plain (hg s), exec_of_plain (hg s).retime]
    rfl
  | branch ho =>
    have hflags : (retime fb line dot s).p = s.p := rfl
    rw [exec_of_rel ho, exec_of_rel ho, branch, branch, hflags]
    split <;> rfl
  | jmp hi => subst hi; rfl
  | jmpInd hi =>
    subst hi
    rw [exec_jmpInd, exec_jmpInd, resolveIndirect_retime]
    exact Access.conclude_mapState fun _ _ => rfl
  | jsr hi => subst hi; rw [exec_jsr, exec_jsr]; rfl
  | rts hi => subst hi; rw [exec_rts, exec_rts]; rfl
  | rti hi => subst hi; rw [exec_rti, exec_rti]; rfl
  | pha hi => subst hi; rw [exec_pha, exec_pha]; rfl
  | php hi => subst hi; rw [exec_php, exec_php]; rfl
  | pla hi => subst hi; rw [exec_pla, exec_pla]; rfl
  | plp hi => subst hi; rw [exec_plp, exec_plp]; rfl

/-! The fetch and the step. -/

theorem fetch_retime (s : State) :
    fetch (retime fb line dot s) = (fetch s).mapState (retime fb line dot) := by
  have hpc : (retime fb line dot s).pc = s.pc := rfl
  rw [fetch, hpc, busRead_retime]
  exact Access.andThen_mapState fun _ _ => rfl

theorem fetchInstr_retime (s : State) :
    fetchInstr (retime fb line dot s) = (fetchInstr s).mapState (retime fb line dot) := by
  rw [fetchInstr, fetch_retime]
  refine Access.andThen_mapState fun op u => ?_
  split
  case h_1 | h_2 => rfl
  case h_4 =>
    rw [fetch_retime]
    refine Access.andThen_mapState fun lo u' => ?_
    rw [fetch_retime]
    exact Access.andThen_mapState fun _ _ => rfl
  all_goals
    rw [fetch_retime]
    exact Access.andThen_mapState fun _ _ => rfl

theorem cost_retime (i : Instr) (s : State) : cost i (retime fb line dot s) = cost i s := rfl

theorem ppuSteps_related {R : State → State → Prop} (hclock : ∀ u v, R u v → R (ppuStep u) (ppuStep v)) (n : Nat)
    {u v : State} (h : R u v) : R (ppuSteps n u) (ppuSteps n v) := by
  induction n generalizing u v with
  | zero => exact h
  | succ n ih => exact ih (hclock u v h)

/-- A relation that the replacement meets and that PPU clocks keep is kept by a step. -/
theorem step_retime_related {R : State → State → Prop} (s : State)
    (hR : ∀ u, u.cfg = s.cfg → R u (retime fb line dot u)) (hclock : ∀ u v, R u v → R (ppuStep u) (ppuStep v)) :
    Result.related R (step s) (step (retime fb line dot s)) := by
  have hrun : (retime fb line dot s).run = s.run := rfl
  rw [step, step, hrun]
  cases s.run with
  | halted => rfl
  | running =>
    rw [cpuStep, cpuStep, fetchInstr_retime]
    cases hf : fetchInstr s with
    | fault f => rfl
    | ok i s1 =>
      simp only [Access.mapState, exec_retime, cost_retime]
      cases he : exec i s1 with
      | fault f => rfl
      | refused r => rfl
      | next s2 =>
        obtain ⟨hfetch, _⟩ := parametersAndBankShape_stepRelation.fetchInstr hf
        obtain ⟨hexec, _⟩ := parametersAndBankShape_stepRelation.exec he
        have hnext : R s2 (retime fb line dot s2) := hR s2 (hexec.trans hfetch)
        cases cost i s1 with
        | none => exact hnext
        | some n => exact ppuSteps_related hclock _ hnext

end Retime

/-! The obligations. -/

theorem Result.related_mono {R R' : State → State → Prop} (h : ∀ {s t}, R s t → R' s t) {r r' : Result}
    (hr : Result.related R r r') : Result.related R' r r' := by
  cases r <;> cases r'
  case next.next => exact h hr
  all_goals exact hr

theorem sameButFb_iff {s t : State} : SameButFb s t ↔ t = retime t.fb id id s := eq_comm

theorem sameButTiming_iff {s t : State} :
    SameButTiming s t ↔ t = retime t.fb (fun _ => t.ppu.scanline) (fun _ => t.ppu.cycle) s := eq_comm

/-- Settles O20: only the clocks of the step write the framebuffer, and none reads it. -/
theorem framebufferIsNeverRead : Obligations.FramebufferIsNeverRead := by
  intro s t h
  rw [sameButFb_iff.mp h]
  refine step_retime_related _ _ _ s (fun u _ => rfl) fun u v huv => ?_
  rw [sameButFb_iff.mp huv]
  rfl

/-- Settles O21: under `none` a clock changes nothing but the framebuffer and the counters. -/
theorem countersAreInvisible : Obligations.CountersAreInvisible := by
  intro s t hoff h
  rw [sameButTiming_iff.mp h]
  refine Result.related_mono And.right (step_retime_related (R := fun u v => u.cfg.vblank = .off ∧ SameButTiming u v)
    _ _ _ s (fun u hu => ⟨hu ▸ hoff, rfl⟩) fun u v ⟨huoff, huv⟩ => ⟨huoff, ?_⟩)
  rw [sameButTiming_iff.mp huv]
  simp only [SameButTiming, ppuStep, retime, huoff, nextStatus]

end Sys2Proof.Machine
end

section
/-! PROOFS. Cpu reset, program load and launch (70_reset_and_hazards.md sections 1 and 2; 55_console.md R351;
20_memory.md R71): what each leaves, from which state it starts. From these O1 to O5. -/

namespace Sys2Proof.Machine

/-! Cpu reset (R400 to R402). -/

theorem cpuReset_of_resetPc {s u : State} {pc : Word} (h : resetPc s = .ok pc u) :
    cpuReset s = .ok () (afterReset pc u) := by
  rw [cpuReset, h, Access.andThen_ok]
  rfl

theorem cpuReset_of_fault {s : State} {e : Fault} (h : resetPc s = .fault e) : cpuReset s = .fault e := by
  rw [cpuReset, h, Access.andThen_fault]

theorem resetPc_of_fixed {s : State} {pc : Word} (h : s.cfg.resetPc = .fixed pc) : resetPc s = .ok pc s := by
  rw [resetPc, h]

/-- A vector is a pointer on the CpuBus, its high byte at the next address (R402). -/
theorem resetPc_of_vector {s : State} {addr : Word} (h : s.cfg.resetPc = .vector addr) :
    resetPc s = readPointer addr (addr + 1#16) s := by
  rw [resetPc, h]
  rfl

theorem readPointer_of_reads {lowAddr highAddr : Word} {lo hi : Byte} {s u v : State}
    (hlo : busRead lowAddr s = .ok lo u) (hhi : busRead highAddr u = .ok hi v) :
    readPointer lowAddr highAddr s = .ok (hi ++ lo) v := by
  rw [readPointer_of_read highAddr hlo, hhi, Access.andThen_ok]

/-- A byte in a memory region is read in place. -/
theorem busRead_of_peek {addr : Word} {s : State} {v : Byte} (h : peek addr s = some v) :
    busRead addr s = .ok v s := by
  cases hc : cpuTarget addr with
  | ppuRegister reg => cases (peek_register s hc).symm.trans h
  | cell r i =>
    obtain ⟨m, hm, rfl⟩ := Option.map_eq_some_iff.mp ((peek_cell s hc).symm.trans h)
    exact busRead_of_cell hc (lt_size_of_cpuTarget hc) hm

theorem resetPc_effect {s u : State} {pc : Word} (h : resetPc s = .ok pc u) : ReadEffect s u := by
  cases hp : s.cfg.resetPc with
  | fixed pc =>
    cases (resetPc_of_fixed hp).symm.trans h
    exact .refl s
  | vector addr => exact readPointer_effect ((resetPc_of_vector hp).symm.trans h)

theorem cpuReset_eq_ok {s t : State} (h : cpuReset s = .ok () t) :
    ∃ pc u, ReadEffect s u ∧ t = afterReset pc u := by
  obtain ⟨pc, u, hpc, ht⟩ := Access.andThen_eq_ok.mp h
  cases ht
  exact ⟨pc, u, resetPc_effect hpc, rfl⟩

/-! The image into the bank slots (20_memory.md R71). -/

/-- A buffer that holds just these bytes. -/
def bufferOf (bytes : List Byte) : Memory := Memory.writeSlice [] 0 bytes

theorem bufferOf_wf {bytes : List Byte} {size : Nat} (h : bytes.length ≤ size) : (bufferOf bytes).wf size = true :=
  Memory.wf_writeSlice bytes rfl (by omega)

theorem bufferOf_read {bytes : List Byte} {k : Nat} (hk : k < bytes.length) :
    bytes[k]? = some ((bufferOf bytes).read k) := by
  have hread := Memory.read_writeSlice (m := []) (size := bytes.length) bytes (i := 0) rfl (by omega) k
  rw [bufferOf, hread, if_pos (Nat.zero_le k), Nat.sub_zero, List.getD_eq_getElem _ _ hk, List.getElem?_eq_getElem hk]

/-- A 32 KB image in its two buffers. -/
theorem bytes_of_32K {image : List Byte} (h : image.length = 0x8000) {k : Nat} (hk : k < 0x4000) :
    image[k]? = some ((bufferOf (image.take 0x4000)).read k) ∧
      image[0x4000 + k]? = some ((bufferOf (image.drop 0x4000)).read k) := by
  have hlow := bufferOf_read (bytes := image.take 0x4000) (k := k) (by rw [List.length_take]; omega)
  have hhigh := bufferOf_read (bytes := image.drop 0x4000) (k := k) (by rw [List.length_drop]; omega)
  rw [List.getElem?_take_of_lt hk] at hlow
  rw [List.getElem?_drop] at hhigh
  exact ⟨hlow, hhigh⟩

theorem bulkWrite_of_memOf {r : Region} {i : Nat} {bytes : List Byte} {s : State} {m : Memory}
    (hi : i + bytes.length ≤ r.size) (hm : s.memOf r = some m) :
    bulkWrite r i bytes s = .ok () (s.setMem r (m.writeSlice i bytes)) := by
  simp only [bulkWrite, if_pos hi, hm]

theorem installImage_of_32K {image : List Byte} (h : image.length = 0x8000) (s : State) : installImage image s =
    .ok () { s with prg := .split (bufferOf (image.take 0x4000)) (bufferOf (image.drop 0x4000)) } := by
  have h1 : 0 + (image.take 0x4000).length ≤ Region.prg1.size := by simp [Region.size]
  have h2 : 0 + (image.drop 0x4000).length ≤ Region.prg2.size := by simp [Region.size, h]
  rw [installImage, if_pos h, bulkWrite_of_memOf (r := .prg1) (m := []) h1 rfl, Access.andThen_ok,
    bulkWrite_of_memOf (r := .prg2) (m := []) h2 rfl]
  rfl

theorem installImage_of_16K {image : List Byte} (h : image.length = 0x4000) (s : State) :
    installImage image s = .ok () { s with prg := .shared (bufferOf image) } := by
  have h1 : 0 + image.length ≤ Region.prg1.size := by simp [Region.size, h]
  rw [installImage, if_neg (by omega), if_pos h, bulkWrite_of_memOf (r := .prg1) (m := []) h1 rfl]
  rfl

theorem installImage_of_other {image : List Byte} (h32 : image.length ≠ 0x8000) (h16 : image.length ≠ 0x4000)
    (s : State) : installImage image s = .fault (.imageSizeRefused image.length) := by
  rw [installImage, if_neg h32, if_neg h16]

/-- Installing an image completes with canonical buffers in the slots, all else kept. -/
theorem installImage_eq_ok {image : List Byte} {s t : State} (h : installImage image s = .ok () t) :
    ∃ p : Prg, p.wf = true ∧ p ≠ .unloaded ∧ t = { s with prg := p } := by
  by_cases h32 : image.length = 0x8000
  · cases (installImage_of_32K h32 s).symm.trans h
    have hwf : (Prg.split (bufferOf (image.take 0x4000)) (bufferOf (image.drop 0x4000))).wf = true := by
      rw [Prg.wf, bufferOf_wf (by simp), bufferOf_wf (by simp [h32]), Bool.and_self]
    exact ⟨_, hwf, nofun, rfl⟩
  by_cases h16 : image.length = 0x4000
  · cases (installImage_of_16K h16 s).symm.trans h
    exact ⟨.shared (bufferOf image), bufferOf_wf h16.le, nofun, rfl⟩
  · cases (installImage_of_other h32 h16 s).symm.trans h

/-- What a load does once the image is installed and its bytes are found in the banks. -/
theorem loadsAndResets_of_installImage {image : List Byte} {s t : State} (hinstall : installImage image s = .ok () t)
    (hcfg : t.cfg = s.cfg) (hbytes : ∀ (addr : Word) (b : Byte), 0x8000 ≤ addr.toNat →
      image[(addr.toNat - 0x8000) % image.length]? = some b → busRead addr t = .ok b t) :
    LoadsAndResets image s t := by
  have hload : loadProgram image s = cpuReset t := by rw [loadProgram, hinstall, Access.andThen_ok]
  have hvector {addr : Word} {lo hi : Byte} {u v : State} (hpolicy : s.cfg.resetPc = .vector addr)
      (hlo : busRead addr t = .ok lo u) (hhi : busRead (addr + 1#16) u = .ok hi v) :
      loadProgram image s = .ok () (afterReset (hi ++ lo) v) := by
    rw [hload, cpuReset_of_resetPc ((resetPc_of_vector (hcfg ▸ hpolicy)).trans (readPointer_of_reads hlo hhi))]
  refine ⟨fun pc hpolicy => ?fixed, fun addr lo hi hpolicy hlow hhigh hlo hhi => ?banks,
    fun addr lo hi u v hpolicy hlo hhi => hvector hpolicy hlo hhi, fun addr e hpolicy hlo => ?lowFault,
    fun addr lo u e hpolicy hlo hhi => ?highFault⟩
  case fixed => rw [hload, cpuReset_of_resetPc (resetPc_of_fixed (hcfg ▸ hpolicy))]
  case banks =>
    have hnext : (addr + 1#16).toNat = addr.toNat + 1 := by bv_omega
    exact hvector hpolicy (hbytes addr lo hlow hlo) (hbytes (addr + 1#16) hi (by omega) (hnext ▸ hhi))
  case lowFault =>
    rw [hload]
    exact cpuReset_of_fault ((resetPc_of_vector (hcfg ▸ hpolicy)).trans (readPointer_of_fault _ hlo))
  case highFault =>
    rw [hload]
    refine cpuReset_of_fault ((resetPc_of_vector (hcfg ▸ hpolicy)).trans ((readPointer_of_read _ hlo).trans ?_))
    rw [hhi, Access.andThen_fault]

/-! The obligations. -/

/-- Settles O1: the address is fixed, or the pointer at the vector. -/
theorem cpuResetSetsRegisters : Obligations.CpuResetSetsRegisters := by
  refine ⟨fun s pc h => cpuReset_of_resetPc (resetPc_of_fixed h), fun s addr lo hi h hlo hhi => ?_, rfl,
    fun _ _ => (by decide : Flags.reset.pack = 0x24#8)⟩
  have hread := readPointer_of_reads (busRead_of_peek hlo) (busRead_of_peek hhi)
  exact cpuReset_of_resetPc ((resetPc_of_vector h).trans hread)

/-- Settles O2: each field of `State.reset`. -/
theorem resetStateValues : Obligations.ResetStateValues := by
  unfold Obligations.ResetStateValues
  decide

/-- Settles O3. -/
theorem resetStateIsWellFormed : Obligations.ResetStateIsWellFormed := rfl

/-- Settles O4: the buffers hold the image, so the bytes of a vector in the banks are the image's. -/
theorem programLoadInstallsTheImage : Obligations.ProgramLoadInstallsTheImage := by
  refine fun image s => ⟨fun h => ⟨bufferOf (image.take 0x4000), bufferOf (image.drop 0x4000),
      fun k hk => bytes_of_32K h hk, ?load32⟩,
    fun h => ⟨bufferOf image, fun k hk => bufferOf_read (h ▸ hk), ?load16⟩, fun h32 h16 => ?other⟩
  case load32 =>
    refine loadsAndResets_of_installImage (installImage_of_32K h s) rfl fun addr b hlow hb => ?_
    rw [h, Nat.mod_eq_of_lt (by have := addr.isLt; omega)] at hb
    by_cases hslot : addr.toNat < 0xC000
    · rw [busRead_slot1 hlow hslot rfl]
      have hbyte := (bytes_of_32K h (k := addr.toNat - 0x8000) (by omega)).1
      cases hb.symm.trans hbyte
      rfl
    · rw [busRead_slot2 (Nat.not_lt.mp hslot) rfl]
      have hbyte := (bytes_of_32K h (k := addr.toNat - 0xC000) (by have := addr.isLt; omega)).2
      rw [show 0x4000 + (addr.toNat - 0xC000) = addr.toNat - 0x8000 by omega] at hbyte
      cases hb.symm.trans hbyte
      rfl
  case load16 =>
    refine loadsAndResets_of_installImage (installImage_of_16K h s) rfl fun addr b hlow hb => ?_
    rw [h] at hb
    have hbyte := bufferOf_read (bytes := image) (k := (addr.toNat - 0x8000) % 0x4000) (by omega)
    cases hb.symm.trans hbyte
    by_cases hslot : addr.toNat < 0xC000
    · rw [busRead_slot1 hlow hslot rfl, Nat.mod_eq_of_lt (by omega)]
    · rw [busRead_slot2 (Nat.not_lt.mp hslot) rfl,
        show (addr.toNat - 0x8000) % 0x4000 = addr.toNat - 0xC000 by have := addr.isLt; omega]
  case other => rw [loadProgram, installImage_of_other h32 h16, Access.andThen_fault]

/-- Settles O5: the image goes into canonical buffers, and the reset's reads keep the invariant. -/
theorem launchIsWellFormed : Obligations.LaunchIsWellFormed := by
  intro cfg wram ioreg sram oam nt pal image t hwram hioreg hsram hoam hnt hpal h
  obtain ⟨_, s1, hinstall, hreset⟩ := Access.andThen_eq_ok.mp h
  obtain ⟨p, hp, hloaded, rfl⟩ := installImage_eq_ok hinstall
  obtain ⟨pc, u, hread, rfl⟩ := cpuReset_eq_ok hreset
  refine ⟨?wf, rfl, fun hprg => hloaded (hread.prg.symm.trans hprg), hread.keepsCpu.cfg⟩
  have hu : u.wf = true := hread.wf
    ((State.wf_iff _).mpr ⟨hwram, hioreg, hsram, hp, hoam, hnt, hpal, Nat.zero_le _, Nat.zero_le _, rfl⟩)
  exact State.wf_of_same hu rfl rfl rfl rfl rfl rfl

end Sys2Proof.Machine
end

section
/-! PROOFS. What an instruction leaves as it was: the flags and registers that its rule does not write (10_state.md
section 1), the bytes that it does not store to (20_memory.md sections 2, 4, 5). An instruction's accesses keep the Cpu;
what it does after them is a change of the Cpu alone. From these O15 to O18. -/

namespace Sys2Proof.Machine

/-! What an instruction does to the Cpu after its accesses. -/

/-- The second state differs from the first in the registers and flags, and the run's status, only where the operation
writes them. -/
structure WrittenBy (op : Operation) (s t : State) : Prop where
  nz : t.p.n ≠ s.p.n ∨ t.p.z ≠ s.p.z → op ∈
    [.lda, .ldx, .ldy, .lax, .tax, .txa, .tay, .tya, .tsx, .adc, .sbc, .and, .ora, .eor, .bit, .cmp, .cpx, .cpy,
      .inc, .dec, .inx, .iny, .dex, .dey, .asl, .lsr, .rol, .ror, .pla, .plp, .rti, .slo, .rla, .sre, .rra, .dcp, .isc]
  c : t.p.c ≠ s.p.c → op ∈
    [.adc, .sbc, .cmp, .cpx, .cpy, .asl, .lsr, .rol, .ror, .clc, .sec, .slo, .rla, .sre, .rra, .dcp, .isc, .plp, .rti]
  v : t.p.v ≠ s.p.v → op ∈ [.adc, .sbc, .bit, .clv, .rra, .isc, .plp, .rti]
  d : t.p.d ≠ s.p.d → op ∈ [.cld, .sed, .plp, .rti]
  i : t.p.i ≠ s.p.i → op ∈ [.cli, .sei, .plp, .rti]
  b : t.p.b ≠ s.p.b → op ∈ [.plp, .rti] ∧ s.cfg.pullB = .load
  a : t.a ≠ s.a → op ∈ [.lda, .lax, .txa, .tya, .pla, .adc, .sbc, .and, .ora, .eor, .slo, .rla, .sre, .rra, .isc]
  x : t.x ≠ s.x → op ∈ [.ldx, .lax, .tax, .tsx, .inx, .dex]
  y : t.y ≠ s.y → op ∈ [.ldy, .tay, .iny, .dey]
  sp : t.sp ≠ s.sp → op ∈ [.txs, .pha, .php, .pla, .plp, .jsr, .rts, .rti]
  pc : t.pc ≠ s.pc → op ∈ [.bpl, .bmi, .bvc, .bvs, .bcc, .bcs, .bne, .beq, .jmp, .jsr, .rts, .rti]
  run : t.run ≠ s.run → op = .hlt

theorem ReadsTo.writtenBy {op : Operation} {v : Byte} {u t : State} (h : ReadsTo op v u t) : WrittenBy op u t := by
  cases h <;> constructor <;> simp [addWithCarry, bitwise, bitTest, compareWith]

theorem ModifiesTo.writtenBy {op : Operation} {r : Byte × Bool} {u t : State} (h : ModifiesTo op r u t) :
    WrittenBy op u t := by
  cases h <;> constructor <;> simp [addWithCarry, compareWith, combineWithA]

theorem Plain.writtenBy {op : Operation} {s t : State} (h : Plain s op t) : WrittenBy op s t := by
  cases h <;> constructor <;> simp

/-! The accesses. -/

/-- The operations that write memory: to their memory operand, or to the stack. -/
def writingOps : List Operation := storingOps ++ [.pha, .php, .jsr]

theorem ReadsTo.notMem_writingOps {op : Operation} {v : Byte} {u t : State} (h : ReadsTo op v u t) :
    op ∉ writingOps := by
  cases h <;> decide

theorem Plain.notMem_writingOps {op : Operation} {s t : State} (h : Plain s op t) : op ∉ writingOps := by
  cases h <;> decide

theorem isBranch_iff {op : Operation} : isBranch op = true ↔ op ∈ [.bpl, .bmi, .bvc, .bvs, .bcc, .bcs, .bne, .beq] :=
  decide_eq_true_iff

theorem notMem_writingOps_of_isBranch {op : Operation} (h : isBranch op = true) : op ∉ writingOps := by
  revert h
  cases op <;> decide

/-- A jump or a branch writes `PC` alone. -/
theorem writtenBy_setPc {op : Operation} (hop : isBranch op = true ∨ op = .jmp) (w : Word) (u : State) :
    WrittenBy op u (u.setPc w) := by
  have hpc : op ∈ [.bpl, .bmi, .bvc, .bvs, .bcc, .bcs, .bne, .beq, .jmp, .jsr, .rts, .rti] := by
    obtain hop | rfl := hop
    · exact List.mem_append_left [.jmp, .jsr, .rts, .rti] (isBranch_iff.mp hop)
    · decide
  constructor <;> simp [hpc]

theorem WrittenBy.refl (op : Operation) (s : State) : WrittenBy op s s := by
  constructor <;> simp

/-- The accesses of an instruction: reads alone, one write to its memory operand after a read of it or none, pushes, or
none but the write of the accumulator. -/
inductive Accessed (i : Instr) (s : State) : State → Prop where
  | reads {u : State} (hop : i.operation ∉ writingOps) (hu : ReadEffect s u) : Accessed i s u
  | stores {m : MemMode} {v : Byte} {u u' : State} (ho : i.operand = .mem m) (hop : i.operation ∈ storingOps)
      (hu : u = s ∨ ∃ old, busRead (addressOf m s) s = .ok old u)
      (hw : busWrite (addressOf m s) v u = .ok () u') : Accessed i s u'
  | pushes {wram : Memory} (hop : i.operation ∈ [.pha, .php, .jsr]) : Accessed i s { s with wram := wram }
  | acc {v : Byte} (ho : i.operand = .acc) : Accessed i s (s.setA v)

/-- An instruction that completes makes its accesses and then changes the Cpu alone, as its operation does. -/
theorem exec_accessed {i : Instr} {s t : State} (h : exec i s = .next t) :
    ∃ u, Accessed i s u ∧ SameButCpu u t ∧ WrittenBy i.operation u t := by
  cases exec_effect h with
  | read ho hl ht => exact ⟨_, .reads ht.notMem_writingOps (load_effect hl), ht.sameButCpu, ht.writtenBy⟩
  | write ho hv ht =>
    rw [store_of_resolve _ (resolve_eq _ s)] at ht
    obtain ⟨_, hop⟩ := hv.ops
    exact ⟨t, .stores ho hop (.inl rfl) ht, rfl, .refl _ t⟩
  | modify ho hf hm ht =>
    rw [modify_mem_eq] at hm
    obtain ⟨old, u, hread, hm⟩ := Access.andThen_eq_ok.mp hm
    obtain ⟨_, u', hwrite, hm⟩ := Access.andThen_eq_ok.mp hm
    cases hm
    obtain ⟨_, hop⟩ := hf.ops
    exact ⟨_, .stores ho hop (.inr ⟨old, hread⟩) hwrite, ht.sameButCpu, ht.writtenBy⟩
  | modifyAcc ho hf ht => exact ⟨_, .acc ho, ht.sameButCpu, ht.writtenBy⟩
  | plain ht => exact ⟨s, .reads ht.notMem_writingOps (.refl s), ht.sameButCpu, ht.writtenBy⟩
  | branch ho hb =>
    refine ⟨s, .reads (notMem_writingOps_of_isBranch hb) (.refl s), ?_⟩
    split
    · exact ⟨rfl, writtenBy_setPc (.inl hb) _ s⟩
    · exact ⟨rfl, .refl _ s⟩
  | jmp hi =>
    cases hi
    exact ⟨s, .reads (show Operation.jmp ∉ _ by decide) (.refl s), rfl, writtenBy_setPc (.inr rfl) _ s⟩
  | jmpInd hi hr =>
    cases hi
    exact ⟨_, .reads (show Operation.jmp ∉ _ by decide) (readPointer_effect hr), rfl, writtenBy_setPc (.inr rfl) _ _⟩
  | pha hi hp | php hi hp | jsr hi hp =>
    cases hi
    simp only [push_eq, push16_eq, Access.ok.injEq, true_and] at hp
    cases hp
    refine ⟨_, .pushes (by simp [Instr.operation, Instr.form]), rfl, ?_⟩
    constructor <;> simp [Instr.operation, Instr.form]
  | rts hi hp | pla hi hp | plp hi hp =>
    cases hi
    simp only [pull_eq, pull16_eq, Access.ok.injEq] at hp
    obtain ⟨rfl, rfl⟩ := hp
    refine ⟨s, .reads (by decide) (.refl s), rfl, ?_⟩
    constructor <;> simp +contextual [Instr.operation, Instr.form, unpackP_eq, unpacked]
  | rti hi hr =>
    cases hi
    cases (returnFromInterrupt_eq s).symm.trans hr
    refine ⟨s, .reads (by decide) (.refl s), rfl, ?_⟩
    constructor <;> simp +contextual [Instr.operation, Instr.form, unpacked]

/-- The accesses keep the Cpu, but for an instruction on the accumulator. -/
theorem Accessed.keepsCpu {i : Instr} {s u : State} (h : Accessed i s u) :
    KeepsCpu s u ∨ (i.operand = .acc ∧ ∃ v, u = s.setA v) := by
  cases h with
  | reads _ hu => exact .inl hu.keepsCpu
  | stores _ _ hu hw =>
    obtain rfl | ⟨_, hread⟩ := hu
    · exact .inl (busWrite_keepsCpu hw)
    · exact .inl ((busRead_effect hread).keepsCpu.trans (busWrite_keepsCpu hw))
  | pushes => exact .inl ⟨rfl, rfl, rfl, rfl, rfl, rfl, rfl, rfl, rfl, rfl, rfl⟩
  | acc ho => exact .inr ⟨ho, _, rfl⟩

/-! The obligations. -/

/-- Settles O15: the accesses keep the flags, and `WrittenBy` says what changes after them. -/
theorem flagsChangeOnlyByTheirWriters : Obligations.FlagsChangeOnlyByTheirWriters := by
  intro i s t h
  obtain ⟨u, hu, _, ht⟩ := exec_accessed h
  have hkeeps : u.p = s.p ∧ u.cfg = s.cfg := by
    obtain hkeeps | ⟨_, _, rfl⟩ := hu.keepsCpu
    · exact ⟨hkeeps.p, hkeeps.cfg⟩
    · exact ⟨rfl, rfl⟩
  rw [← hkeeps.1, ← hkeeps.2]
  exact ⟨ht.nz, ht.c, ht.v, ht.d, ht.i, ht.b⟩

theorem shift_of_acc {i : Instr} (ho : i.operand = .acc) : i.operation ∈ [.asl, .lsr, .rol, .ror] := by
  cases i with
  | aslAcc | lsrAcc | rolAcc | rorAcc => decide
  | _ => cases ho

/-- Settles O16: as O15; an accumulator operand is that of a shift. -/
theorem registersChangeOnlyByTheirWriters : Obligations.RegistersChangeOnlyByTheirWriters := by
  intro i s t h
  obtain ⟨u, hu, hsame, ht⟩ := exec_accessed h
  have hppu : t.ppu = u.ppu := hsame ▸ rfl
  have hfb : t.fb = u.fb := hsame ▸ rfl
  have hcfg : t.cfg = u.cfg := hsame ▸ rfl
  rw [hppu, hfb, hcfg]
  obtain hkeeps | ⟨ho, v, rfl⟩ := hu.keepsCpu
  · obtain ⟨ha, hx, hy, hpc, hsp, _, hfb, hcfg, hrun, hscanline, hcycle⟩ := hkeeps
    rw [← ha, ← hx, ← hy, ← hpc, ← hsp, ← hrun]
    exact ⟨fun h => .inl (ht.a h), ht.x, ht.y, ht.sp, ht.pc, hscanline, hcycle, hfb, hcfg,
      fun h => eq_hlt_of_operation (ht.run h)⟩
  · exact ⟨fun _ => .inr ⟨shift_of_acc ho, ho⟩, ht.x, ht.y, ht.sp, ht.pc, rfl, rfl, rfl, rfl,
      fun h => eq_hlt_of_operation (ht.run h)⟩

/-- The regions that a CPU address can reach. -/
def cpuRegions : List Region := [.wram, .ioreg, .sram, .prg1, .prg2]

theorem mem_cpuRegions_of_cpuTarget {addr : Word} {r : Region} {i : Nat} (h : cpuTarget addr = .cell r i) :
    r ∈ cpuRegions := by
  simp only [cpuTarget] at h
  split_ifs at h <;> cases h <;> decide

theorem peek_congr {s t : State} (h : ∀ r ∈ cpuRegions, t.memOf r = s.memOf r) (addr : Word) :
    peek addr t = peek addr s := by
  cases hc : cpuTarget addr with
  | ppuRegister reg => rw [peek_register t hc, peek_register s hc]
  | cell r i => rw [peek_cell t hc, peek_cell s hc, h r (mem_cpuRegions_of_cpuTarget hc)]

theorem SameButCpu.memOf {s t : State} (h : SameButCpu s t) (r : Region) : t.memOf r = s.memOf r := by
  rw [← h]
  cases r <;> rfl

/-- Settles O17: the accesses are reads, or none. -/
theorem frameOfInstructionsThatStoreNothing : Obligations.FrameOfInstructionsThatStoreNothing := by
  intro i s t h hacc hpush
  obtain ⟨u, hu, hsame, _⟩ := exec_accessed h
  have hread : ∃ u', ReadEffect s u' ∧ SameButCpu u' t := by
    cases hu with
    | reads _ hu => exact ⟨u, hu, hsame⟩
    | stores ho hop => cases ho.symm.trans (hacc hop)
    | pushes hop => exact absurd hop hpush
    | acc => exact ⟨s, .refl s, hsame⟩
  obtain ⟨u', hu', hsame'⟩ := hread
  refine ⟨peek_congr fun r _ => (hsame'.memOf r).trans (hu'.memOf r), ?_⟩
  obtain ⟨_, _, _, _, _, rfl⟩ := hu'
  rw [← hsame']
  exact ⟨rfl, rfl, rfl, rfl, rfl, rfl, rfl, rfl, rfl, rfl, rfl⟩

/-! The frame of a store (20_memory.md sections 2, 4, 5). -/

/-- A push, as the write of a byte of work RAM: every other byte is as before. -/
theorem peek_writeStack {s : State} (hs : s.wf = true) (sp v : Byte) {b : Word}
    (hb : cellAt b s ≠ cellAt (stackAddr sp) s) :
    peek b { s with wram := s.wram.write (stackIndex sp) v } = peek b s :=
  (peek_setMem (r := .wram) hs (cpuTarget_stackAddr sp) rfl).trans (if_neg hb)

/-- What an instruction with its operand at `addr` leaves as it was, and each of its accesses there. -/
structure StoreFrame (addr : Word) (s t : State) : Prop where
  cells (b : Word) : cellAt b t = cellAt b s
  others (b : Word) : cellAt b s ≠ cellAt addr s → peek b t = peek b s
  ofRegister : cellAt addr s = none → ∀ b, peek b t = peek b s
  ofCell : cellAt addr s ≠ none → t.ppu = s.ppu
  ppuMemories : cpuTarget addr = .ppuRegister 0x2004#16 ∨ cpuTarget addr = .ppuRegister 0x2007#16 ∨
    (t.ppu.oam = s.ppu.oam ∧ t.ppu.nt = s.ppu.nt ∧ t.ppu.pal = s.ppu.pal)

theorem StoreFrame.trans {addr : Word} {s t u : State} (h : StoreFrame addr s t) (h' : StoreFrame addr t u) :
    StoreFrame addr s u where
  cells b := (h'.cells b).trans (h.cells b)
  others b hb := (h'.others b (by rwa [h.cells, h.cells])).trans (h.others b hb)
  ofRegister hnone b := (h'.ofRegister ((h.cells addr).trans hnone) b).trans (h.ofRegister hnone b)
  ofCell hcell := (h'.ofCell (by rwa [h.cells])).trans (h.ofCell hcell)
  ppuMemories := by
    obtain hoam | hdata | ⟨hoam, hnt, hpal⟩ := h.ppuMemories
    · exact .inl hoam
    · exact .inr (.inl hdata)
    obtain hoam' | hdata | ⟨hoam', hnt', hpal'⟩ := h'.ppuMemories
    · exact .inl hoam'
    · exact .inr (.inl hdata)
    · exact .inr (.inr ⟨hoam'.trans hoam, hnt'.trans hnt, hpal'.trans hpal⟩)

theorem Prg.home_shape (p : Prg) (r : Region) : p.shape.home r = p.home r := by
  cases p <;> cases r <;> rfl

theorem cellAt_congr {s t : State} (h : t.prg.shape = s.prg.shape) (b : Word) : cellAt b t = cellAt b s := by
  have hhome (r : Region) : t.prg.home r = s.prg.home r := by rw [← Prg.home_shape, h, Prg.home_shape]
  cases hc : cpuTarget b with
  | ppuRegister reg => rw [cellAt_register t hc, cellAt_register s hc]
  | cell r i => rw [cellAt_cell t hc, cellAt_cell s hc, hhome]

theorem SameButCpu.storeFrame {s t : State} (h : SameButCpu s t) (addr : Word) : StoreFrame addr s t := by
  have hpeek := peek_congr fun r _ => h.memOf r
  have hppu : t.ppu = s.ppu := h ▸ rfl
  exact ⟨cellAt_congr (h ▸ rfl), fun b _ => hpeek b, fun _ => hpeek, fun _ => hppu,
    .inr (.inr (hppu ▸ ⟨rfl, rfl, rfl⟩))⟩

theorem busRead_storeFrame {addr : Word} {v : Byte} {s t : State} (h : busRead addr s = .ok v t) :
    StoreFrame addr s t := by
  have hread := busRead_effect h
  have hpeek := peek_congr fun r _ => hread.memOf r
  refine ⟨cellAt_congr (congrArg Prg.shape hread.prg), fun b _ => hpeek b, fun _ => hpeek, fun hcell => ?_, ?_⟩
  · cases hc : cpuTarget addr with
    | cell r i => rw [(busRead_cell hc h).1]
    | ppuRegister reg => exact absurd (cellAt_register s hc) hcell
  · obtain ⟨_, _, _, _, _, rfl⟩ := hread
    exact .inr (.inr ⟨rfl, rfl, rfl⟩)

theorem State.setMem_ppu {r : Region} (hr : r ∈ cpuRegions) (m : Memory) (s : State) : (s.setMem r m).ppu = s.ppu := by
  simp only [cpuRegions, List.mem_cons, List.not_mem_nil, or_false] at hr
  obtain rfl | rfl | rfl | rfl | rfl := hr <;> rfl

theorem State.memOf_setPpu {r : Region} (hr : r ∈ cpuRegions) (p : Ppu) (s : State) :
    State.memOf { s with ppu := p } r = s.memOf r := by
  simp only [cpuRegions, List.mem_cons, List.not_mem_nil, or_false] at hr
  obtain rfl | rfl | rfl | rfl | rfl := hr <;> rfl

theorem busWrite_storeFrame {addr : Word} {v : Byte} {s t : State} (hs : s.wf = true)
    (h : busWrite addr v s = .ok () t) : StoreFrame addr s t := by
  have hcells := cellAt_congr (busWrite_shape h)
  cases busWrite_written h with
  | ignored hc => exact SameButCpu.storeFrame (s := s) (t := s) rfl addr
  | @stored r i m hc hp hm =>
    have hppu := State.setMem_ppu (mem_cpuRegions_of_cpuTarget hc) (m.write i v) s
    refine ⟨hcells, fun b hb => (peek_setMem hs hc hm).trans (if_neg hb), fun hnone => ?_, fun _ => hppu, ?_⟩
    · cases (cellAt_cell s hc).symm.trans hnone
    · rw [hppu]
      exact .inr (.inr ⟨rfl, rfl, rfl⟩)
  | @register reg w t hc hw =>
    obtain ⟨ht, hmem⟩ := writeRegister_frame hw
    have hpeek : ∀ b, peek b t = peek b s := ht ▸ peek_congr fun r hr => State.memOf_setPpu hr t.ppu s
    refine ⟨hcells, fun b _ => hpeek b, fun _ => hpeek, fun h => absurd (cellAt_register s hc) h, ?_⟩
    obtain rfl | rfl | hmem := hmem
    · exact .inl hc
    · exact .inr (.inl hc)
    · exact .inr (.inr hmem)

theorem eq_of_pushing {i : Instr} (h : i.operation ∈ [.pha, .php, .jsr]) :
    i = .pha ∨ i = .php ∨ ∃ w, i = .jsr w := by
  cases i with
  | pha => exact .inl rfl
  | php => exact .inr (.inl rfl)
  | jsr w => exact .inr (.inr ⟨w, rfl⟩)
  | _ => simp [Instr.operation, Instr.form] at h

/-- Settles O18: a store is a read or none, and one write to the bus; a push writes one byte of work RAM. -/
theorem frameOfInstructionsThatStore : Obligations.FrameOfInstructionsThatStore := by
  refine ⟨fun i m s s1 t addr hs hop ho hr h => ?_, fun i s t hs hop h => ?_, fun i s t hs hop h => ?_⟩
  · cases (resolve_eq m s).symm.trans hr
    obtain ⟨u, hu, hsame, _⟩ := exec_accessed h
    cases hu with
    | reads hnot => exact absurd (List.mem_append_left _ hop) hnot
    | pushes hpush =>
      have hdisjoint : ∀ op ∈ [Operation.pha, .php, .jsr], op ∉ storingOps := by decide
      exact absurd hop (hdisjoint _ hpush)
    | acc hacc => cases ho.symm.trans hacc
    | @stores m' v u1 u2 ho' _ hu hw =>
      obtain rfl : m = m' := Operand.mem.inj (ho.symm.trans ho')
      have hframe : StoreFrame (addressOf m s) s u := by
        obtain rfl | ⟨old, hread⟩ := hu
        · exact busWrite_storeFrame hs hw
        · exact (busRead_storeFrame hread).trans (busWrite_storeFrame ((busRead_effect hread).wf hs) hw)
      obtain ⟨_, hothers, hregister, hcell, hppu⟩ := hframe.trans (hsame.storeFrame _)
      exact ⟨hothers, hregister, hcell, hppu⟩
  · obtain rfl | rfl | ⟨w, rfl⟩ := eq_of_pushing (List.mem_append_left [.jsr] hop)
    · cases (exec_pha s).symm.trans h
      exact ⟨rfl, fun b hb => peek_writeStack hs s.sp s.a hb⟩
    · cases (exec_php s).symm.trans h
      exact ⟨rfl, fun b hb => peek_writeStack hs s.sp _ hb⟩
    · exact absurd hop (show Operation.jsr ∉ [.pha, .php] by decide)
  · obtain rfl | rfl | ⟨w, rfl⟩ := eq_of_pushing (i := i) (by rw [hop]; decide)
    · cases hop
    · cases hop
    cases (exec_jsr w s).symm.trans h
    have hs' : State.wf { s with wram := s.wram.write (stackIndex s.sp) (hiByte (s.pc - 1#16)) } = true :=
      busWrite_wf hs (busWrite_of_cell _ (cpuTarget_stackAddr s.sp) nofun nofun (stackIndex_lt_size s.sp) rfl)
    exact ⟨rfl, fun b hhigh hlow =>
      (peek_writeStack hs' (s.sp - 1#8) _ hlow).trans (peek_writeStack hs s.sp _ hhigh)⟩

end Sys2Proof.Machine
end

section
/-! PROOFS. The fetches of a step (40_cpu_common.md R130, R131; 55_console.md R352): the bytes fetched, the instruction
that they decode to, the step as the run of it. From these O6 to O8. -/

namespace Sys2Proof.Machine

/-! One fetch and a run of fetches (R131). -/

theorem fetch_of_busRead {s u : State} {b : Byte} (h : busRead s.pc s = .ok b u) :
    fetch s = .ok b { u with pc := s.pc + 1#16 } := by
  rw [fetch, h, Access.andThen_ok, (busRead_effect h).keepsCpu.pc]
  rfl

theorem fetch_of_busRead_fault {s : State} {f : Fault} (h : busRead s.pc s = .fault f) : fetch s = .fault f := by
  rw [fetch, h, Access.andThen_fault]

/-- From the first state to the second just these bytes are fetched. -/
inductive Fetches : State → List Byte → State → Prop where
  | nil (s : State) : Fetches s [] s
  | cons {s u t : State} {b : Byte} {bytes : List Byte} (hb : fetch s = .ok b u) (h : Fetches u bytes t) :
      Fetches s (b :: bytes) t

theorem Fetches.fetched {s t u : State} {bytes : List Byte} {k : Nat} (hk : Fetched k s t) (h : Fetches t bytes u) :
    Fetched (k + bytes.length) s u := by
  induction h generalizing k with
  | nil => exact hk
  | cons hb _ ih =>
    rw [List.length_cons, Nat.add_comm _ 1, ← Nat.add_assoc]
    exact ih (hk.fetch hb)

theorem Fetches.fetchesFrom {s t : State} {bytes : List Byte} (h : Fetches s bytes t) :
    (fetchesFrom bytes.length s).map Prod.fst = bytes := by
  induction h with
  | nil => rfl
  | cons hb _ ih => simp only [List.length_cons, Machine.fetchesFrom, hb, List.map_cons, ih]

theorem peek_setPc (addr pc : Word) (s : State) : peek addr (s.setPc pc) = peek addr s :=
  peek_congr (fun r _ => SameButCpu.memOf (s := s) (t := s.setPc pc) rfl r) addr

/-- Bytes in memory regions are fetched in place. -/
theorem fetches_of_peek {s : State} {bytes : List Byte}
    (h : ∀ k < bytes.length, peek (s.pc + BitVec.ofNat 16 k) s = bytes[k]?) :
    Fetches s bytes { s with pc := s.pc + BitVec.ofNat 16 bytes.length } := by
  induction bytes generalizing s with
  | nil =>
    rw [List.length_nil, show s.pc + BitVec.ofNat 16 0 = s.pc from BitVec.add_zero s.pc]
    exact .nil s
  | cons b bytes ih =>
    have hb : peek s.pc s = some b := by
      have hfirst := h 0 (Nat.zero_lt_succ _)
      rwa [show s.pc + BitVec.ofNat 16 0 = s.pc from BitVec.add_zero s.pc] at hfirst
    have hpc (k : Nat) : s.pc + 1#16 + BitVec.ofNat 16 k = s.pc + BitVec.ofNat 16 (k + 1) := by
      rw [BitVec.add_assoc, BitVec.add_comm 1#16, BitVec.ofNat_add]
    have hrest := ih (s := s.setPc (s.pc + 1#16)) fun k hk => by
      rw [peek_setPc, State.setPc_pc, hpc, h (k + 1) (Nat.succ_lt_succ hk), List.getElem?_cons_succ]
    refine .cons (fetch_of_busRead (busRead_of_peek hb)) ?_
    rw [List.length_cons, ← hpc bytes.length]
    exact hrest

/-! The instruction fetched (R130). -/

/-- The bytes fetched for an instruction are its encoding. -/
theorem fetches_of_fetchInstr {s s1 : State} {i : Instr} (h : fetchInstr s = .ok i s1) : Fetches s (encode i) s1 := by
  obtain ⟨op, u, hop, h⟩ := Access.andThen_eq_ok.mp h
  cases hrow : dispatch op with
  | none => simp only [hrow, reduceCtorEq] at h
  | some row =>
    simp only [hrow] at h
    have hencodes := dispatch_encodes hrow
    cases row with
    | bare j =>
      cases h
      rw [show encode i = _ from hencodes]
      exact .cons hop (.nil _)
    | byte make =>
      obtain ⟨b, u', hb, h⟩ := Access.andThen_eq_ok.mp h
      cases h
      rw [show encode (make b) = _ from hencodes b]
      exact .cons hop (.cons hb (.nil _))
    | word make =>
      obtain ⟨lo, u1, hlo, h⟩ := Access.andThen_eq_ok.mp h
      obtain ⟨hi, u2, hhi, h⟩ := Access.andThen_eq_ok.mp h
      cases h
      rw [show encode (make (wordOf hi lo)) = _ from hencodes (wordOf hi lo), loByte_wordOf, hiByte_wordOf]
      exact .cons hop (.cons hlo (.cons hhi (.nil _)))
    | offset make =>
      obtain ⟨b, u', hb, h⟩ := Access.andThen_eq_ok.mp h
      cases h
      rw [show encode (make (sext8 b)) = _ from hencodes (sext8 b), ofInt_sext8]
      exact .cons hop (.cons hb (.nil _))

/-- Fetching an instruction is decoding the bytes fetched. -/
theorem fetchInstr_of_decode {s s1 : State} {i : Instr} {bytes : List Byte} (h : Fetches s bytes s1)
    (hd : decode bytes = .ok (i, [])) : fetchInstr s = .ok i s1 := by
  unfold decode at hd
  split at hd
  next => cases hd
  next op bytes =>
    obtain _ | ⟨hop, h⟩ := h
    rw [fetchInstr, hop, Access.andThen_ok]
    split at hd <;> cases hd
    next hrow =>
      cases h
      simp only [hrow]
    next hrow =>
      obtain _ | ⟨hb, h⟩ := h
      cases h
      simp only [hrow, hb, Access.andThen_ok]
    next hrow =>
      obtain _ | ⟨hlo, h⟩ := h
      obtain _ | ⟨hhi, h⟩ := h
      cases h
      simp only [hrow, hlo, hhi, Access.andThen_ok]
    next hrow =>
      obtain _ | ⟨hb, h⟩ := h
      cases h
      simp only [hrow, hb, Access.andThen_ok]

theorem fault_of_andThen_map {α β : Type} {r : Access α} {g : α → β} {f : Fault}
    (h : (r.andThen fun v t => .ok (g v) t) = .fault f) : r = .fault f := by
  obtain h | ⟨_, _, _, h⟩ := Access.andThen_eq_fault.mp h
  · exact h
  · cases h

theorem fetch_eq_fault {s : State} {f : Fault} (h : fetch s = .fault f) : busRead s.pc s = .fault f := by
  obtain h | ⟨_, _, _, h⟩ := Access.andThen_eq_fault.mp h
  · exact h
  · cases h

theorem raisedByAccess_of_fetch {s : State} {f : Fault} (h : fetch s = .fault f) : f.raisedByAccess = true :=
  raisedByAccess_of_busRead (fetch_eq_fault h)

/-- Fetching an instruction fails on an access or on an unmapped opcode byte (60_exceptions.md R371). -/
theorem fetchInstr_eq_fault {s : State} {f : Fault} (h : fetchInstr s = .fault f) :
    f.raisedByAccess = true ∨ ∃ op u, fetch s = .ok op u ∧ dispatch op = none ∧ f = .unknownOpcode op s.pc := by
  obtain h | ⟨op, u, hop, h⟩ := Access.andThen_eq_fault.mp h
  · exact .inl (raisedByAccess_of_fetch h)
  cases hrow : dispatch op with
  | none =>
    simp only [hrow, Access.fault.injEq] at h
    exact .inr ⟨op, u, hop, hrow, h.symm⟩
  | some row =>
    refine .inl ?_
    simp only [hrow] at h
    cases row with
    | bare => cases h
    | word =>
      obtain h | ⟨_, _, _, h⟩ := Access.andThen_eq_fault.mp h
      · exact raisedByAccess_of_fetch h
      · exact raisedByAccess_of_fetch (fault_of_andThen_map h)
    | _ => exact raisedByAccess_of_fetch (fault_of_andThen_map h)

theorem fetchInstr_of_fetch_fault {s : State} {f : Fault} (h : fetch s = .fault f) : fetchInstr s = .fault f := by
  rw [fetchInstr, h, Access.andThen_fault]

theorem fetchInstr_of_unmapped {s u : State} {b : Byte} (h : fetch s = .ok b u) (hb : b ∈ unmappedBytes) :
    fetchInstr s = .fault (.unknownOpcode b s.pc) := by
  rw [fetchInstr, h, Access.andThen_ok, dispatch_unmapped hb]

/-! The step (R352). -/

theorem step_of_fetchInstr {s s1 : State} {i : Instr} (hrun : s.run = .running) (h : fetchInstr s = .ok i s1) :
    step s = runDecoded i s1 := by
  simp only [step, hrun, cpuStep, h, runDecoded]
  cases exec i s1 with
  | next t => cases cost i s1 <;> rfl
  | _ => rfl

theorem step_of_fetchInstr_fault {s : State} {f : Fault} (hrun : s.run = .running) (h : fetchInstr s = .fault f) :
    step s = .fault f := by
  simp only [step, hrun, cpuStep, h]
  rfl

theorem step_of_halted {s : State} (hrun : s.run = .halted) : step s = .fault .runEnded := by
  rw [step, hrun]
  rfl

theorem runDecoded_of_exec_fault {i : Instr} {s : State} {f : Fault} (h : exec i s = .fault f) :
    runDecoded i s = .fault f := by
  rw [runDecoded, h]

/-- A decoded instruction runs to a next state or to the fault of an access. -/
theorem runDecoded_outcome (i : Instr) (s : State) :
    (∃ t, runDecoded i s = .next t) ∨ ∃ f, runDecoded i s = .fault f ∧ f.raisedByAccess = true := by
  obtain ⟨t, h⟩ | ⟨f, h, hf⟩ := exec_outcome i s
  · refine .inl ?_
    rw [runDecoded, h]
    cases cost i s <;> exact ⟨_, rfl⟩
  · exact .inr ⟨f, runDecoded_of_exec_fault h, hf⟩

/-! The obligations. -/

/-- Settles O6: the bytes in place are fetched, and an instruction's encoding decodes to it. -/
theorem stepRunsTheDecodedInstruction : Obligations.StepRunsTheDecodedInstruction := by
  refine ⟨fun s => ⟨fun b u => fetch_of_busRead, fun f => fetch_of_busRead_fault⟩, fun s s1 i => step_of_fetchInstr,
    fun s f => step_of_fetchInstr_fault, fun s i bytes rest hrun hd hpeek => ?_⟩
  obtain rfl := decode_eq_ok hd
  rw [List.length_append, Nat.add_sub_cancel] at hpeek ⊢
  have hfetches : Fetches s (encode i) _ := fetches_of_peek fun k hk => by
    rw [hpeek k hk, List.getElem?_append_left hk]
  have hdecode := decode_encode (wf_of_decode hd) []
  rw [List.append_nil] at hdecode
  exact step_of_fetchInstr hrun (fetchInstr_of_decode hfetches hdecode)

/-- Settles O8: the byte 0x00 has the one slot of the halt sentinel. -/
theorem haltEndsTheRun : Obligations.HaltEndsTheRun := by
  refine ⟨encodes_of_slots (by decide), fun s => ⟨rfl, rfl⟩, fun s u hrun hread => ?_, fun s => step_of_halted⟩
  have hfetches : Fetches s [0x00#8] _ := .cons (fetch_of_busRead hread) (.nil _)
  exact step_of_fetchInstr hrun (fetchInstr_of_decode hfetches rfl)

theorem dispatch_eq_none_iff (b : Byte) : dispatch b = none ↔ b ∈ unmappedBytes := by
  have hall : ∀ b, (dispatch b).isNone = true → b ∈ unmappedBytes := by decide
  exact ⟨fun h => hall b (Option.isNone_iff_eq_none.mpr h), dispatch_unmapped⟩

theorem decode_eq_unknownOpcode {b : Byte} {rest : List Byte} :
    decode (b :: rest) = .error (.unknownOpcode b) ↔ dispatch b = none := by
  refine ⟨fun h => ?_, fun h => by simp only [decode, h]⟩
  cases hrow : dispatch b with
  | none => rfl
  | some row =>
    simp only [decode, hrow] at h
    split at h
    next hnone => exact hnone
    all_goals cases h

/-- Settles O7: only a byte without a slot faults as unknown; an access raises other faults. -/
theorem unmappedBytesFault : Obligations.UnmappedBytesFault := by
  refine ⟨dispatch_eq_none_iff, fun b _ => decode_eq_unknownOpcode.trans (dispatch_eq_none_iff b),
    fun s u b hrun hread hb => ?_, fun s u b c pc hread hb hstep => ?_⟩
  · have hfetch := fetch_of_busRead hread
    have hinstr := fetchInstr_of_unmapped hfetch hb
    refine ⟨step_of_fetchInstr_fault hrun hinstr, ?_⟩
    simp only [leftByFault, hrun, hinstr, stepFetches, hfetch, operandLength, dispatch_unmapped hb, fetchesFrom]
    rfl
  · cases hrun : s.run with
    | halted => cases (step_of_halted hrun).symm.trans hstep
    | running =>
      cases hinstr : fetchInstr s with
      | ok i s1 =>
        obtain ⟨t, hrun'⟩ | ⟨f, hrun', hf⟩ := runDecoded_outcome i s1
        · cases hrun'.symm.trans ((step_of_fetchInstr hrun hinstr).symm.trans hstep)
        · cases hrun'.symm.trans ((step_of_fetchInstr hrun hinstr).symm.trans hstep)
          cases hf
      | fault f =>
        cases (step_of_fetchInstr_fault hrun hinstr).symm.trans hstep
        obtain hf | ⟨op, _, hop, hnone, _⟩ := fetchInstr_eq_fault hinstr
        · cases hf
        · cases (fetch_of_busRead hread).symm.trans hop
          exact hb ((dispatch_eq_none_iff b).mp hnone)

end Sys2Proof.Machine
end

section
/-! PROOFS. The outcome of a step, the state that a fault leaves, the observer and the trace line (60_exceptions.md
section 1; 55_console.md section 5). From these O19 and O60. -/

namespace Sys2Proof.Machine

/-! The observed bytes (55_console.md R356). -/

theorem operandLength_opcode (i : Instr) : operandLength i.opcode + 1 = formatLength i.operand.format :=
  of_mapped_slots (P := fun b f _ => operandLength b + 1 = formatLength f) (by decide) i

theorem operandLength_of_unmapped {b : Byte} (hb : b ∈ unmappedBytes) : operandLength b = 0 := by
  rw [operandLength, dispatch_unmapped hb]

theorem stepFetches_of_fetch {s u : State} {b : Byte} (hrun : s.run = .running) (h : fetch s = .ok b u) :
    stepFetches s = (b, u) :: fetchesFrom (operandLength b) u := by
  rw [stepFetches, hrun]
  simp only [h]

theorem stepFetches_of_fetch_fault {s : State} {f : Fault} (h : fetch s = .fault f) : stepFetches s = [] := by
  cases hrun : s.run with
  | halted => exact stepFetches_halted hrun
  | running => simp only [stepFetches, hrun, h]

/-- The fetches that complete are observed, up to a fetch that faults. -/
theorem observed_of_fetch {s u : State} {b : Byte} (hrun : s.run = .running) (h : fetch s = .ok b u) :
    observed s = b :: (fetchesFrom (operandLength b) u).map Prod.fst := by
  rw [observed, stepFetches_of_fetch hrun h, List.map_cons]

theorem fetchesFrom_of_fault {s : State} {f : Fault} (h : fetch s = .fault f) (n : Nat) : fetchesFrom n s = [] := by
  cases n with
  | zero => rfl
  | succ n => simp only [fetchesFrom, h]

theorem observed_of_fetchInstr {s s1 : State} {i : Instr} (hrun : s.run = .running) (h : fetchInstr s = .ok i s1) :
    observed s = encode i := by
  obtain _ | ⟨hop, hrest⟩ := fetches_of_fetchInstr h
  have hlength : operandLength i.opcode = i.operand.bytes.length :=
    Nat.add_right_cancel ((operandLength_opcode i).trans (operand_bytes_length i.operand).symm)
  rw [observed_of_fetch hrun hop, hlength, hrest.fetchesFrom, encode]

/-! The outcome of a step and the state that a fault leaves (60_exceptions.md R370, R382). -/

theorem Fault.raisedByStep_of_raisedByAccess {f : Fault} (h : f.raisedByAccess = true) : f.raisedByStep = true := by
  cases f with
  | unknownOpcode | runEnded => rfl
  | _ => exact h

theorem step_outcome (s : State) : (∃ t, step s = .next t) ∨ ∃ f, step s = .fault f ∧ f.raisedByStep = true := by
  cases hrun : s.run with
  | halted => exact .inr ⟨.runEnded, step_of_halted hrun, rfl⟩
  | running =>
    cases hinstr : fetchInstr s with
    | ok i s1 =>
      rw [step_of_fetchInstr hrun hinstr]
      exact (runDecoded_outcome i s1).imp_right fun ⟨f, h, hf⟩ => ⟨f, h, Fault.raisedByStep_of_raisedByAccess hf⟩
    | fault f =>
      refine .inr ⟨f, step_of_fetchInstr_fault hrun hinstr, ?_⟩
      obtain hf | ⟨_, _, _, _, rfl⟩ := fetchInstr_eq_fault hinstr
      · exact Fault.raisedByStep_of_raisedByAccess hf
      · rfl

theorem leftByFault_of_fetchInstr {s s1 : State} {i : Instr} (hrun : s.run = .running)
    (h : fetchInstr s = .ok i s1) : leftByFault s = accessesBeforeFault i s1 := by
  simp only [leftByFault, hrun, h]

theorem leftByFault_of_fetchInstr_fault {s : State} {f : Fault} (h : fetchInstr s = .fault f) :
    leftByFault s = ((stepFetches s).getLast?.map Prod.snd).getD s := by
  cases hrun : s.run <;> simp only [leftByFault, hrun, h]

/-- Whether the fetch or an access faults, `PC` is past the bytes observed and only reads have had effects. -/
theorem leftByFault_fetched {s : State} (hrun : s.run = .running) : Fetched (observed s).length s (leftByFault s) := by
  cases hinstr : fetchInstr s with
  | ok i s1 =>
    have hfetched := (fetches_of_fetchInstr hinstr).fetched (.zero s)
    rw [leftByFault_of_fetchInstr hrun hinstr, observed_of_fetchInstr hrun hinstr, ← Nat.zero_add (encode i).length]
    exact hfetched.read (accessesBeforeFault_effect i s1)
  | fault f =>
    rw [leftByFault_of_fetchInstr_fault hinstr, observed, List.length_map]
    cases hlast : (stepFetches s).getLast? with
    | none =>
      rw [List.getLast?_eq_none_iff.mp hlast]
      exact .zero s
    | some last =>
      have hpos : 0 < (stepFetches s).length := List.length_pos_iff.mpr fun hnil => by
        rw [hnil] at hlast
        cases hlast
      rw [List.getLast?_eq_getElem?] at hlast
      have hstate := stepFetches_state hlast
      rwa [Nat.sub_add_cancel hpos] at hstate

/-- Settles O19: the outcome by `step_outcome`, the state left by `leftByFault_fetched`. -/
theorem stepFaultsAreTheTaxonomy : Obligations.StepFaultsAreTheTaxonomy := by
  refine fun s => ⟨fun r h => ?refused, fun f h => ?raised, fun f hrun _ => leftByFault_fetched hrun,
    fun f hrun h => ?opcode, fun i s1 f hrun hinstr h => ⟨?bus, ?pc⟩, fun hrun => ⟨step_of_halted hrun, ?halted⟩⟩
  case refused =>
    obtain ⟨_, h'⟩ | ⟨_, h', _⟩ := step_outcome s <;> cases h'.symm.trans h
  case raised =>
    obtain ⟨_, h'⟩ | ⟨f', h', hf⟩ := step_outcome s <;> cases h'.symm.trans h
    exact hf
  case opcode =>
    have hfetch := fetch_of_busRead_fault h
    have hinstr := fetchInstr_of_fetch_fault hfetch
    refine ⟨step_of_fetchInstr_fault hrun hinstr, ?_⟩
    rw [leftByFault_of_fetchInstr_fault hinstr, stepFetches_of_fetch_fault hfetch]
    rfl
  case bus => rw [step_of_fetchInstr hrun hinstr, runDecoded_of_exec_fault h]
  case pc =>
    obtain ⟨u, _, hleft⟩ := leftByFault_fetched hrun
    rw [hleft, State.setPc_pc, observed_of_fetchInstr hrun hinstr, encode_length]
  case halted =>
    unfold leftByFault
    rw [stepFetches_halted hrun, hrun]
    rfl

/-! The observer and the trace line. -/

theorem observerEvents_eq (s : State) : observerEvents s = (observed s).mapIdx (fun k b => .fetched b
    { pc := s.pc + BitVec.ofNat 16 (k + 1), a := s.a, x := s.x, y := s.y, sp := s.sp, p := s.p }) ++ completion s := by
  rw [observerEvents]
  congr 1
  refine List.ext_getElem? fun j => ?_
  rw [observed, List.getElem?_mapIdx, List.getElem?_map, List.getElem?_map, Option.map_map]
  cases hj : (stepFetches s)[j]? with
  | none => rfl
  | some f =>
    obtain ⟨u, hu, hf⟩ := stepFetches_state hj
    obtain ⟨ha, hx, hy, _, hsp, hp, _⟩ := hu.keepsCpu
    simp [hf, State.registers, ha, hx, hy, hsp, hp]

theorem completion_of_next {s t : State} (h : step s = .next t) : completion s = [.completed t.registers] := by
  cases hrun : s.run with
  | halted => cases (step_of_halted hrun).symm.trans h
  | running =>
    simp only [step, hrun] at h
    cases hstep : cpuStep s with
    | cycles n u =>
      rw [hstep] at h
      cases h
      simp only [completion, hrun, hstep, ppuSteps_registers]
    | halt u =>
      rw [hstep] at h
      cases h
      simp only [completion, hrun, hstep]
    | _ =>
      rw [hstep] at h
      cases h

/-- Settles O60: the observed bytes are the fetches that complete, the registers those of `Fetched`. -/
theorem traceLineShowsTheStateBefore : Obligations.TraceLineShowsTheStateBefore := by
  refine ⟨fun s i s1 hrun h => ⟨observed_of_fetchInstr hrun h, ?line⟩, fun s f h => ?noLine,
    fun s u b hrun h hb => ?unmapped, fun s f h => ?opcodeFault, fun s u i f hrun _ hop hfault => ?secondFault,
    fun s u v i lo f hrun hlength hop hlo hfault => ?thirdFault,
    fun s => ⟨completion s, observerEvents_eq s, fun t => completion_of_next, fun f => completion_of_fault⟩,
    fun s hrun => ?halted⟩
  case line =>
    have htrace : traceLine s = some
        { pc := s.pc, bytes := observed s, a := s.a, x := s.x, y := s.y, p := s.p.pack, sp := s.sp } := by
      simp only [traceLine, hrun, h]
    exact ⟨_, htrace, rfl, observed_of_fetchInstr hrun h, rfl, rfl, rfl, pack_eq_packedSum s.p, rfl⟩
  case noLine => cases hrun : s.run <;> simp only [traceLine, hrun, h]
  case unmapped =>
    rw [observed_of_fetch hrun (fetch_of_busRead h), operandLength_of_unmapped hb]
    rfl
  case opcodeFault =>
    rw [observed, stepFetches_of_fetch_fault (fetch_of_busRead_fault h)]
    rfl
  case secondFault =>
    rw [observed_of_fetch hrun hop, fetchesFrom_of_fault hfault, List.map_nil]
  case thirdFault =>
    have hlength' : operandLength i.opcode = 1 + 1 := Nat.add_right_cancel ((operandLength_opcode i).trans hlength)
    rw [observed_of_fetch hrun hop, hlength']
    simp only [fetchesFrom, hlo, hfault, List.map_cons, List.map_nil]
  case halted =>
    refine ⟨?_, ?_, ?_⟩
    · rw [observed, stepFetches_halted hrun, List.map_nil]
    · rw [observerEvents, stepFetches_halted hrun, completion_of_fault (step_of_halted hrun)]
      rfl
    · simp only [traceLine, hrun]

end Sys2Proof.Machine
end
